-- ==== Sys2Proof/Word.lean ====
section
/-! DEFINITION. The byte, the only machine word the manual computes with bit by bit: the characters of
coordination-line and loop frames and the bytes of the record memory (00_scope, Conventions). -/

namespace Sys2Proof

/-- A character of a frame, or a byte of the record memory. -/
abbrev Byte := BitVec 8

end Sys2Proof
end

