-- ==== Sys2Proof/Syntax.lean ====
section
/-! DEFINITION. The commands of the AK3124: one constructor for each row of spec/opcode_table.json, with what
the outside supplies at that step as its operands. -/

namespace Sys2Proof

/-- The two loop wires (Chapter 5). -/
inductive BranchId where
  | branchA | branchB
  deriving DecidableEq, Repr

/-- What the external memory answers to a read (R153): the bytes it holds; the bytes it holds after the commissioning
tool, or damage, has rewritten the region through the memory's own connector (R127, R158); or nothing, so that every
byte reads FFh. -/
inductive MemAnswer where
  | held
  | rewritten (bytes : List Byte)
  | absent
  deriving DecidableEq, Repr

/-- A character that a branch receives: its byte, and whether its stop bit reads at the idle level (R97). -/
structure LoopChar where
  value : Byte
  stop : Bool
  deriving DecidableEq, Repr

/-- How a frame on the coordination line fails to reach its end (R142). -/
inductive RxBreak where
  | stopDominant
  | idleEarly
  | oversize
  | lineHeld
  deriving DecidableEq, Repr

/-- The two frame kinds a console sends (section 11.1). -/
inductive ServiceKind where
  | query | command
  deriving DecidableEq, Repr

/-- The steps of the part. `ms` is the millisecond part of the tick at which a step falls (R111); `src`, `dst` and
`payload` are a received frame's header bytes and payload; `args` are the payload bytes after the item or command code;
`g` is a group, `n` a luminaire, `b` a branch; `idle` tells whether the coordination line is idle at the step (R140). A last
operand that is not written stands for the start of the tick second, or for a line that is not idle. -/
inductive Instr where
  | powerOnReset
  | resetN
  | oscillatorStop
  | configBlockRead (answer : MemAnswer)
  | groupRecordRead (answer : MemAnswer) (ms : Nat := 0)
  | luminaireRecordRead (answer : MemAnswer) (ms : Nat)
  | tickSecond
  | minuteTick
  | schedulingPass
  | backoffExpiry (g : Nat)
  | holdExpiry (g ms : Nat)
  | pollRound (g ms : Nat)
  | endInstant (n ms : Nat)
  | refreshExpiry (g ms : Nat)
  | rechargeComplete (g : Nat) (idle : Bool := false)
  | beaconCountdownExpiry
  | claimReceived (src dst : Byte) (payload : List Byte) (ms : Nat)
  | releaseReceived (src dst : Byte) (payload : List Byte) (ms : Nat)
  | beaconReceived (src dst : Byte) (payload : List Byte) (ms : Nat)
  | otherFrameReceived (src dst kind : Byte) (ms : Nat)
  | rxFrameBroken (how : RxBreak) (chars : List Byte)
  | entryAgeOut
  | peerRechargeEnd
  | overflowHoldExpiry
  | listenExpiry
  | clearTimerExpiry
  | silenceExpiry (idle : Bool := false)
  | fallbackExpiry
  | driverCut (bits ms : Nat)
  | driverReenable
  | lineHeld (bits : Nat)
  | lineHeldCleared (bits : Nat)
  | txAttemptStart
  | txDefer
  | txComplete
  | txCollision
  | branchGrant (b : BranchId)
  | loopRetry (b : BranchId) (chars : List LoopChar)
  | loopTransactionComplete (b : BranchId) (chars : List LoopChar) (ms : Nat)
  | sweepStart
  | msenseChange (high : Bool) (ms : Nat)
  | validatedOff (ms : Nat) (idle : Bool := false)
  | validatedOn (ms : Nat)
  | outageHoldExpiry
  | inhibitChange (high : Bool) (ms : Nat)
  | inhibitValidated (ms : Nat)
  | inhibitStuck
  | skeyChange (high : Bool) (ms : Nat)
  | skeyValidated (ms : Nat)
  | calendarAdvance
  | stationStatus (src dst : Byte) (args : List Byte) (ms : Nat := 0)
  | group (src dst : Byte) (args : List Byte) (ms : Nat)
  | luminaire (src dst : Byte) (args : List Byte) (ms : Nat)
  | history (src dst : Byte) (args : List Byte) (ms : Nat := 0)
  | peerEntry (src dst : Byte) (args : List Byte) (ms : Nat := 0)
  | eventStatus (src dst : Byte) (args : List Byte) (ms : Nat := 0)
  | counters (src dst : Byte) (args : List Byte) (ms : Nat := 0)
  | setTime (src dst : Byte) (args : List Byte) (ms : Nat := 0)
  | hold (src dst : Byte) (args : List Byte) (ms : Nat := 0)
  | resume (src dst : Byte) (args : List Byte) (ms : Nat := 0)
  | force (src dst : Byte) (args : List Byte) (ms : Nat := 0)
  | cancel (src dst : Byte) (args : List Byte) (ms : Nat)
  | clearEvents (src dst : Byte) (args : List Byte) (ms : Nat := 0)
  | clearIsolation (src dst : Byte) (args : List Byte) (ms : Nat := 0)
  | probe (src dst : Byte) (args : List Byte) (ms : Nat := 0)
  | restart (src dst : Byte) (args : List Byte) (ms : Nat := 0)
  | restartTaken
  | memoryGrant
  | flushComplete
  | historyLineWritten
  | fillComplete (answer : MemAnswer)
  | reportOffer
  | rxFrameDiscarded (chars : List Byte)
  | unknownServiceCode (src dst : Byte) (kind : ServiceKind) (payload : List Byte) (ms : Nat := 0)
  | powerLoss
  deriving DecidableEq, Repr

end Sys2Proof
end

