-- ==== Sys2Proof/Decode.lean ====
section
/-! DEFINITION. The reading of table words. No row of spec/opcode_table.json carries bits (the commands reach the part
over a line, a loop, a memory and pins, 00_scope), so no word spells a command. -/

namespace Sys2Proof

/-- No row of the table has bits, so every word is rejected. -/
def decodeTableWord (_nbits _w : Nat) : Option Instr := none

end Sys2Proof
end

