-- ==== Sys2Proof/Machine/State.lean ====
section
/-! DEFINITION. The state of the AK3124: every item the chapters name, block by block, as plain data, with the value each
takes at a power-on reset (`State.reset`). A tick stamp is a number of milliseconds on the tick (R111). -/

namespace Sys2Proof.Machine

/-! ### Outcomes -/

/-- Why the block stops. It has no constructor: no rule of the manual stops the part (log 1), so no meaning raises one
(safe). -/
inductive Fault where
  deriving DecidableEq, Repr

/-- Why a command has no meaning. -/
inductive Refusal where
  /-- Raised by an arm of `exec` whose command has no meaning yet; safe. No arm raises it: every row is modelled. -/
  | notModelled (mnemonic : String)
  deriving DecidableEq, Repr

/-! ### Group table, claim engine and test engine, per group (R1, R26, R68) -/

/-- The group states of section 1.3. -/
inductive GState where
  | unused | idle | due | proposed | testing | recovering
  deriving DecidableEq, Repr

/-- The claim phases (R26). -/
inductive Phase where
  | proposed | testing | recovering
  deriving DecidableEq, Repr

/-- The group result codes of section 9.2; `part` is PARTIAL. -/
inductive GResult where
  | pass | part | fail | noResponse | abortedMains | abortedConflict | abortedLine | cancelled | abortedRestart
  deriving DecidableEq, Repr

/-- The admission notes of R14: the fourteen conditions of R10 by name, and the codes that say why no test was made. -/
inductive Note where
  | notDue | inClaim
  | mode | time | mains | outage | inhibit | held | backoff | window | noMember
  | setFull | conflictOwn | conflictPeer | overflow | load
  | outranked | admitted
  deriving DecidableEq, Repr

/-- A group definition after the load (R1). -/
structure GroupDef where
  members : List Nat
  home : Nat
  neighbours : List Nat
  minutes : Nat
  rechargeHours : Nat
  interval : Nat
  early : Nat
  deriving DecidableEq, Repr

/-- The hold state of a PROPOSED group's claim record (R26). -/
inductive Hold where
  | awaiting
  | running (elapsed : Nat)
  deriving DecidableEq, Repr

/-- A claim record (R26): the hold belongs to a PROPOSED group, the refresh countdown to the other two phases. -/
structure ClaimRecord where
  phase : Phase
  hold : Option Hold
  refresh : Option Nat
  deriving DecidableEq, Repr

/-- The group test start (R70): the tick stamp and the calendar minute. -/
structure TestStart where
  tick : Nat
  minute : Nat
  deriving DecidableEq, Repr

/-- One entry of the group table (section 1.2) with the claim engine's and the test engine's items for the group and
the working group record's own fields. -/
structure Group where
  defn : GroupDef
  state : GState
  held : Bool
  forced : Bool
  lastTested : Option Nat
  fails : Nat
  lastResult : Option GResult
  age : Option Nat
  urgency : Nat
  claimUrgency : Nat
  backoff : Nat
  overdue : Bool
  note : Note
  claim : Option ClaimRecord
  testStart : Option TestStart
  /-- The number of the poll round last made (log 43). -/
  round : Option Nat
  firstFailing : Option Nat
  recharge : Option Nat
  /-- The model's own: the recharge countdown has reached 0 at a minute tick and RECHARGE_COMPLETE is due (R87). -/
  rechargeDue : Bool
  recTestStart : Option Nat
  recFirstFailing : Option Nat
  dirty : Bool
  deriving DecidableEq, Repr

/-! ### Luminaire table (R68, R93, section 9.2) -/

/-- The per-luminaire test states (R69). -/
inductive TestState where
  | untested | pendingStart | discharging | passed | failedEarly | noReply | excluded | aborted
  deriving DecidableEq, Repr

/-- The luminaire result codes of section 9.2. -/
inductive LResult where
  | passed | failedEarly | noReply | aborted
  deriving DecidableEq, Repr

/-- The requests the test engine places for a luminaire (R71). -/
inductive Request where
  | start | probe
  deriving DecidableEq, Repr

/-- Presence (R100). -/
inductive Presence where
  | unknown | present | absent
  deriving DecidableEq, Repr

/-- The test engine's last good reply (R68). -/
structure GoodReply where
  tick : Nat
  volts : Byte
  faults : Byte
  deriving DecidableEq, Repr

/-- The loop controller's latest reply (R93). -/
structure LatestReply where
  tick : Nat
  status : Byte
  volts : Byte
  faults : Byte
  deriving DecidableEq, Repr

/-- A working luminaire record (section 9.2). -/
structure LumRecord where
  time : Option Nat
  result : Option LResult
  achieved : Nat
  volts : Byte
  faults : Byte
  next : Nat
  count : Nat
  deriving DecidableEq, Repr

/-- One entry of the luminaire table. -/
structure Lum where
  test : TestState
  startCount : Nat
  ownStart : Option Nat
  lastGood : Option GoodReply
  achieved : Nat
  endOwed : Bool
  request : Option Request
  branch : Option BranchId
  presence : Presence
  misses : Nat
  latest : Option LatestReply
  reported : Byte
  record : LumRecord
  dirty : Bool
  deriving DecidableEq, Repr

/-! ### Peer view (R49) -/

/-- What a full entry carries beyond a placeholder (R49). -/
structure FullClaim where
  urgency : Nat
  home : Nat
  neighbours : List Nat
  remaining : Nat
  deriving DecidableEq, Repr

/-- An entry of the peer view (R49): a placeholder is an entry whose `full` is none. -/
structure Entry where
  station : Nat
  group : Nat
  phase : Phase
  weight : Nat
  age : Nat
  mask : List Nat
  full : Option FullClaim
  /-- The model's own: the minute tick has found the entry due to leave by R56. -/
  rechargeEnded : Bool
  deriving DecidableEq, Repr

/-! ### Luminaire loop (R93) -/

inductive LoopCommand where
  | probe | start | endTest
  deriving DecidableEq, Repr

/-- The sources of the arbiter (R103). -/
inductive LoopSource where
  | test | passThrough | sweep
  deriving DecidableEq, Repr

/-- A transaction in flight, with the characters of its command frame (R96). -/
structure LoopTxn where
  lum : Nat
  command : LoopCommand
  source : LoopSource
  attempt : Nat
  chars : List Byte
  deriving DecidableEq, Repr

/-- One record of a failure window (R101). -/
structure WindowRecord where
  lum : Nat
  good : Bool
  deriving DecidableEq, Repr

structure Branch where
  down : Bool
  window : List WindowRecord
  txn : Option LoopTxn
  /-- The sweep's cursor while a sweep is in progress, none while it is idle. -/
  sweep : Option Nat
  /-- The test engine's last served group (R68). -/
  lastServed : Option Nat
  deriving DecidableEq, Repr

/-- The pass-through slot's request (R108). -/
structure Slot where
  lum : Nat
  console : Byte
  inFlight : Bool
  deriving DecidableEq, Repr

structure Loop where
  a : Branch
  b : Branch
  sweepCountdown : Option Nat
  slot : Option Slot
  deriving DecidableEq, Repr

/-! ### Inputs, calendar and tick (Chapter 6) -/

/-- The tick (R111). `secondOfMinute` counts towards the next minute tick; the two marks are the model's own: the
minute tick has occurred and the step MINUTE_TICK, or SCHEDULING_PASS, has not yet been taken for it. -/
structure Clock where
  seconds : Nat
  ms : Nat
  secondOfMinute : Nat
  minuteDue : Bool
  passDue : Bool
  deriving DecidableEq, Repr

/-- The backup domain (R119). -/
structure Calendar where
  minutes : Nat
  seconds : Nat
  valid : Bool
  oscStop : Bool
  deriving DecidableEq, Repr

/-- The levels on the input pins. -/
structure Pins where
  msense : Bool
  inhibit : Bool
  skey : Bool
  deriving DecidableEq, Repr

inductive Mains where
  | unknown | on | off
  deriving DecidableEq, Repr

/-- The validated state of INHIBIT and of SKEY (R117, R173). -/
inductive Contact where
  | unknown | active | inactive
  deriving DecidableEq, Repr

/-- An input filter's candidate (R112): the level and the tick stamp of its last change. -/
structure Candidate where
  high : Bool
  since : Nat
  deriving DecidableEq, Repr

structure Inputs where
  mains : Mains
  mainsCand : Candidate
  /-- The mains validation time in force, in seconds (R112). -/
  validation : Nat
  glitches : Nat
  outageTimer : Nat
  lastOutage : Nat
  outageHold : Nat
  inhibit : Contact
  inhibitCand : Candidate
  stuck : Nat
  /-- The model's own: the stuck timer has reached 10,080 and INHIBIT_STUCK is not yet taken (R118). -/
  stuckDue : Bool
  deriving DecidableEq, Repr

/-! ### Station supervisor (R125) -/

inductive Mode where
  | loading | unconfigured | listening | coordinating | isolated | standalone
  deriving DecidableEq, Repr

inductive IsoReason where
  | noReason | silence | driver
  deriving DecidableEq, Repr

structure Supervisor where
  mode : Mode
  reason : IsoReason
  address : Option Nat
  listen : Option Nat
  silence : Option Nat
  fallback : Option Nat
  clear : Option Nat
  isolations : Nat
  deriving DecidableEq, Repr

/-! ### Line interface (R141) -/

inductive Reason where
  | withdrawn | complete | aborted
  deriving DecidableEq, Repr

/-- A CLAIM's contents (section 2.3). -/
structure ClaimBody where
  phase : Phase
  urgency : Nat
  weight : Nat
  remaining : Nat
  home : Nat
  neighbours : List Nat
  deriving DecidableEq, Repr

/-- A BEACON's contents, built when it becomes current (R30). -/
structure BeaconBody where
  mode : Mode
  valid : Bool
  minutes : Nat
  weight : Nat
  claims : List (Nat × Phase)
  deriving DecidableEq, Repr

inductive Status where
  | ok | retry | busy | notSent | noReply | refusedSource | refusedKey | notApplicable | badArgument | corrupt
  | unconfigured
  deriving DecidableEq, Repr

/-- The detail classes of section 10.1. -/
inductive DetailClass where
  | noDetail | group | luminaire | lineLost | frameKind | eventNumber | console
  deriving DecidableEq, Repr

structure Detail where
  cls : DetailClass
  value : Nat
  deriving DecidableEq, Repr

/-- A report (R168). -/
structure Report where
  event : Nat
  detail : Detail
  minutes : Nat
  console : Byte
  deriving DecidableEq, Repr

/-- A REPLY (section 11.1); `restart` marks the one that answers RESTART (R178). -/
structure Reply where
  console : Byte
  status : Status
  echo : List Byte
  data : List Byte
  restart : Bool
  deriving DecidableEq, Repr

/-- The frames the station sends. -/
inductive TxFrame where
  | claim (g : Nat) (body : ClaimBody)
  | release (g : Nat) (reason : Reason)
  | beacon
  | reply (r : Reply)
  | event (r : Report)
  deriving DecidableEq, Repr

/-- The current frame (R146) with its attempt count and window. `chars` are the characters it is sent as, fixed when it
became current; `sending` tells a transmission attempt from the slot wait between attempts. -/
structure Current where
  frame : TxFrame
  attempt : Nat
  window : Nat
  sending : Bool
  chars : List Byte
  deriving DecidableEq, Repr

/-- The receiver (R141). Every received frame is one whole step, so it is idle between steps (log 12). -/
inductive Receiver where
  | idle
  | framing (chars : List Byte)
  deriving DecidableEq, Repr

/-- The two levels of the line (Chapter 8): nobody drives the recessive one, and any single driver forces the dominant one. -/
inductive LineLevel where
  | dominant | recessive
  deriving DecidableEq, Repr

/-- The bit rates of R140, by their stored codes. -/
inductive LineRate where
  | r2400 | r4800 | r9600
  deriving DecidableEq, Repr

structure Line where
  /-- The waiting frames of the transmit queue, in the order they were offered. -/
  waiting : List TxFrame
  backlog : List TxFrame
  current : Option Current
  /-- None while ENABLED; the re-enable countdown while CUT. -/
  cut : Option Nat
  held : Bool
  receiver : Receiver
  crcErrors : Nat
  clashes : Nat
  /-- The slot draw register; none while unseeded. -/
  draw : Option (BitVec 16)
  /-- The slot drawn for the access now being waited for, where a step has shown the line idle in that wait (log 13). -/
  slot : Option Nat
  rate : LineRate
  deriving DecidableEq, Repr

/-! ### Configuration figures (R154) and the loader (section 9.3) -/

/-- An authorised source or a report destination: whether it counts, and its address as stored (R154). -/
structure ConsoleEntry where
  on : Bool
  address : Byte
  deriving DecidableEq, Repr

/-- The station fields of the configuration block, brought into range (R154). -/
structure Figures where
  address : Nat
  rate : LineRate
  beacon : Nat
  cap : Nat
  reducedLimit : Nat
  silence : Nat
  isolationLimit : Nat
  fallback : Bool
  fallbackDays : Nat
  grace : Nat
  validation : Nat
  sweepPeriod : Nat
  aBase : Nat
  aLimit : Nat
  bBase : Nat
  bLimit : Nat
  /-- The hours of the week that the weekly window mask permits. -/
  window : List Bool
  authorised : List ConsoleEntry
  destinations : List ConsoleEntry
  mask : List Bool
  /-- For each event the destination index of a push, none for poll. -/
  selection : List (Option Nat)
  deriving DecidableEq, Repr

/-- What the loader reads next (section 9.3). -/
inductive LoadStep where
  | config
  | groupRecord (g : Nat)
  | lumRecord (n : Nat)
  | done
  deriving DecidableEq, Repr

/-- How a RECOVERING group came from its record (R91). -/
inductive Restored where
  | storedTesting | storedRecovering | damaged
  deriving DecidableEq, Repr

/-- The loader: where it stands, the figures of a good configuration block not yet handed over, and the groups
restored as RECOVERING. -/
structure Loader where
  next : LoadStep
  figures : Option Figures
  restored : List (Nat × Restored)
  deriving DecidableEq, Repr

/-! ### Record memory (Chapter 9) -/

/-- The nonvolatile memory: (offset, byte) pairs, offsets strictly rising, none equal to what an unlisted offset reads
as. -/
abbrev Memory := List Host.Cell

/-- A history line in the appender list (R89). -/
structure HistLine where
  lum : Nat
  time : Nat
  group : Nat
  result : LResult
  achieved : Nat
  volts : Byte
  deriving DecidableEq, Repr

/-- A history-cache entry (R164): the luminaire and its eight slots' lines as read, each with its CRC's verdict. -/
structure CacheEntry where
  lum : Nat
  lines : List (List Byte × Bool)
  deriving DecidableEq, Repr

/-- The memory transaction in flight after LOADING (R153, R165): a write with the bytes it puts down and where, or a
fill, with whether a line for its luminaire was accepted since it began (R164). -/
inductive MemTxn where
  | append (line : HistLine) (offset : Nat) (bytes : List Byte)
  | flushGroup (g : Nat) (offset : Nat) (bytes : List Byte)
  | flushLum (n : Nat) (offset : Nat) (bytes : List Byte)
  | fill (n : Nat) (lineArrived : Bool)
  deriving DecidableEq, Repr

/-- The requesters of R165. -/
inductive Requester where
  | appender | flusher | fill
  deriving DecidableEq, Repr

structure RecMem where
  nvm : Memory
  appender : List HistLine
  /-- The valid cache entries, the one filled earliest first; at most eight. -/
  cache : List CacheEntry
  fillPending : List Nat
  txn : Option MemTxn
  /-- The requester the next offer begins at. -/
  turn : Requester
  deriving DecidableEq, Repr

/-! ### Event unit (R167) and service responder (R173) -/

structure EventCell where
  raw : Bool
  mask : Bool
  status : Bool
  detail : Detail
  /-- Push to a destination index, or none for poll. -/
  push : Option Nat
  deriving DecidableEq, Repr

structure EventUnit where
  cells : List EventCell
  destinations : List ConsoleEntry
  reports : List Report
  deriving DecidableEq, Repr

structure Service where
  authorised : List ConsoleEntry
  key : Contact
  keyCand : Candidate
  /-- A pending restart with the seconds left of its 2 s (R178). -/
  restart : Option Nat
  /-- The RESTART's REPLY has left the transmit queue (R178). -/
  replyGone : Bool
  deriving DecidableEq, Repr

/-- The start stamps of the RUN and TEST patterns (R172). The lamps' levels are computed from them. -/
structure Lamps where
  runSince : Nat
  testSince : Nat
  deriving DecidableEq, Repr

/-- The whole machine. -/
structure State where
  /-- Whether the main supply is present (POWER_LOSS, POWER_ON_RESET). -/
  powered : Bool
  clock : Clock
  calendar : Calendar
  pins : Pins
  inputs : Inputs
  sup : Supervisor
  figures : Figures
  loader : Loader
  groups : List Group
  lums : List Lum
  /-- The claim engine's beacon countdown (R26). -/
  beacon : Option Nat
  /-- The claim engine's overrun latch (R26). -/
  overrun : Bool
  view : List Entry
  overflow : Option Nat
  loop : Loop
  line : Line
  mem : RecMem
  events : EventUnit
  service : Service
  lamps : Lamps
  /-- The model's own: how many free values have been taken. -/
  free : Nat
  /-- The model's own: the commands waiting, first in, first out. -/
  pending : List Instr
  deriving DecidableEq, Repr

/-- What a step answers. -/
abbrev Result := Host.Outcome State Fault Refusal

/-! ### Reset values -/

def GroupDef.empty : GroupDef :=
  { members := [], home := 0, neighbours := [], minutes := 0, rechargeHours := 0, interval := 0, early := 0 }

/-- R22, R26, R68: the values of a group entry after every reset. -/
def Group.empty : Group :=
  { defn := GroupDef.empty, state := .unused, held := false, forced := false, lastTested := none, fails := 0,
    lastResult := none, age := none, urgency := 0, claimUrgency := 0, backoff := 0, overdue := false, note := .notDue,
    claim := none, testStart := none, round := none, firstFailing := none, recharge := none, rechargeDue := false,
    recTestStart := none, recFirstFailing := none, dirty := false }

/-- The empty luminaire record (R157, R166). -/
def LumRecord.empty : LumRecord :=
  { time := none, result := none, achieved := 0, volts := 0#8, faults := 0#8, next := 0, count := 0 }

/-- R68, R93: the values of a luminaire entry after every reset. -/
def Lum.empty : Lum :=
  { test := .untested, startCount := 0, ownStart := none, lastGood := none, achieved := 0, endOwed := false,
    request := none, branch := none, presence := .unknown, misses := 0, latest := none, reported := 0#8,
    record := LumRecord.empty, dirty := false }

/-- R93. -/
def Branch.empty : Branch :=
  { down := false, window := [], txn := none, sweep := none, lastServed := none }

/-- The figures before any configuration is handed over (log 2). -/
def Figures.empty : Figures :=
  { address := 0, rate := .r9600, beacon := 0, cap := 0, reducedLimit := 0, silence := 0, isolationLimit := 0,
    fallback := false, fallbackDays := 0, grace := 0, validation := 10, sweepPeriod := 0, aBase := 0, aLimit := 0,
    bBase := 0, bLimit := 0, window := [], authorised := [], destinations := [], mask := [], selection := [] }

def ConsoleEntry.off : ConsoleEntry := { on := false, address := 0#8 }

/-- R167. -/
def EventCell.empty : EventCell :=
  { raw := false, mask := false, status := false, detail := { cls := .noDetail, value := 0 }, push := none }

/-- The machine after a power-on reset that found the backup domain without supply before it (R119, R126): calendar
counts 0, time-valid clear, the latch already found and cleared. -/
def State.reset : State :=
  { powered := true
    clock := { seconds := 0, ms := 0, secondOfMinute := 0, minuteDue := false, passDue := false }
    calendar := { minutes := 0, seconds := 0, valid := false, oscStop := false }
    pins := { msense := false, inhibit := false, skey := false }
    inputs :=
      { mains := .unknown, mainsCand := { high := false, since := 0 }, validation := 10, glitches := 0,
        outageTimer := 0, lastOutage := 0, outageHold := 0, inhibit := .unknown,
        inhibitCand := { high := false, since := 0 }, stuck := 0, stuckDue := false }
    sup :=
      { mode := .loading, reason := .noReason, address := none, listen := none, silence := none, fallback := none,
        clear := none, isolations := 0 }
    figures := Figures.empty
    loader := { next := .config, figures := none, restored := [] }
    groups := List.replicate 24 Group.empty
    lums := List.replicate 128 Lum.empty
    beacon := none
    overrun := false
    view := []
    overflow := none
    loop := { a := Branch.empty, b := Branch.empty, sweepCountdown := none, slot := none }
    line :=
      { waiting := [], backlog := [], current := none, cut := none, held := false, receiver := .idle, crcErrors := 0,
        clashes := 0, draw := none, slot := none, rate := .r9600 }
    mem := { nvm := [], appender := [], cache := [], fillPending := [], txn := none, turn := .appender }
    events := { cells := List.replicate 26 EventCell.empty, destinations := List.replicate 4 ConsoleEntry.off, reports := [] }
    service :=
      { authorised := List.replicate 4 ConsoleEntry.off, key := .unknown, keyCand := { high := false, since := 0 },
        restart := none, replyGone := false }
    lamps := { runSince := 0, testSince := 0 }
    free := 0
    pending := [] }

end Sys2Proof.Machine
end

