-- ==== Sys2Proof/Machine/Codec.lean ====
section
/-! DEFINITION. Byte order, check codes and the codes and layouts that the manual gives as bytes: frame headers and
payloads (sections 2.3, 8.2, 10.1, 11.1), loop frames (R96, R97) and stored records (section 9.2). -/

namespace Sys2Proof.Machine

/-! ### Byte order (00_scope, Byte and bit order) -/

/-- The low byte of a number. -/
def byte (n : Nat) : Byte := BitVec.ofNat 8 n

/-- The low `k` bytes of a number, most significant first. -/
def bytesBE : Nat → Nat → List Byte
  | 0, _ => []
  | k + 1, n => bytesBE k (n / 256) ++ [byte n]

/-- The number that bytes spell, most significant first. -/
def natBE (bytes : List Byte) : Nat := bytes.foldl (fun acc b => acc * 256 + b.toNat) 0

/-- The byte at an offset, as a number. -/
def byteAt (bytes : List Byte) (i : Nat) : Nat := (bytes.getD i 0#8).toNat

/-- The `len`-byte number at an offset. -/
def fieldAt (bytes : List Byte) (i len : Nat) : Nat := natBE ((bytes.drop i).take len)

/-- A flag byte of a reply (R175). -/
def flag (b : Bool) : Byte := if b then 0x01#8 else 0x00#8

/-- A `k`-byte field whose value may be stopped, none or not known: then every bit is 1 (R175). -/
def optBE (k : Nat) : Option Nat → List Byte
  | some n => bytesBE k n
  | none => List.replicate k 0xFF#8

/-- The number whose bit `i` is set exactly for the members `i` of a list without repeats. -/
def setNat (members : List Nat) : Nat := (members.map (fun i => 2 ^ i)).sum

/-! ### Check codes (00_scope, Check codes) -/

/-- One bit of the CRC-16 generator x^16 + x^12 + x^5 + 1. -/
def crc16Shift (r : BitVec 16) : BitVec 16 := if r.msb then (r <<< 1) ^^^ 0x1021#16 else r <<< 1

def crc16Byte (r : BitVec 16) (b : Byte) : BitVec 16 :=
  crc16Shift (crc16Shift (crc16Shift (crc16Shift (crc16Shift (crc16Shift (crc16Shift (crc16Shift
    (r ^^^ (b.setWidth 16 <<< 8)))))))))

def crc16 (bytes : List Byte) : BitVec 16 := bytes.foldl crc16Byte 0xFFFF#16

/-- One bit of the CRC-8 generator x^8 + x^2 + x + 1. -/
def crc8Shift (r : Byte) : Byte := if r.msb then (r <<< 1) ^^^ 0x07#8 else r <<< 1

def crc8Byte (r b : Byte) : Byte :=
  crc8Shift (crc8Shift (crc8Shift (crc8Shift (crc8Shift (crc8Shift (crc8Shift (crc8Shift (r ^^^ b))))))))

def crc8 (bytes : List Byte) : Byte := bytes.foldl crc8Byte 0x00#8

/-- Bytes followed by their CRC-16, high byte first. -/
def withCrc16 (bytes : List Byte) : List Byte := bytes ++ bytesBE 2 (crc16 bytes).toNat

/-- Whether the last two bytes of a record are the CRC-16 of those before them. -/
def crc16Good (record : List Byte) : Bool :=
  decide (2 ≤ record.length) &&
    (record.drop (record.length - 2) == bytesBE 2 (crc16 (record.take (record.length - 2))).toNat)

/-! ### Codes -/

def GState.code : GState → Byte
  | .unused => 0x00#8 | .idle => 0x01#8 | .due => 0x02#8 | .proposed => 0x03#8 | .testing => 0x04#8
  | .recovering => 0x05#8

def Phase.code : Phase → Byte
  | .proposed => 0x01#8 | .testing => 0x02#8 | .recovering => 0x03#8

/-- R28: phases outside 01h to 03h are no phase. -/
def Phase.ofCode : Nat → Option Phase
  | 1 => some .proposed | 2 => some .testing | 3 => some .recovering | _ => none

def Reason.code : Reason → Byte
  | .withdrawn => 0x01#8 | .complete => 0x02#8 | .aborted => 0x03#8

def GResult.code : Option GResult → Byte
  | none => 0x00#8 | some .pass => 0x01#8 | some .part => 0x02#8 | some .fail => 0x03#8 | some .noResponse => 0x04#8
  | some .abortedMains => 0x05#8 | some .abortedConflict => 0x06#8 | some .abortedLine => 0x07#8
  | some .cancelled => 0x08#8 | some .abortedRestart => 0x09#8

/-- R156: a result code above 09h reads as none. -/
def GResult.ofCode : Nat → Option GResult
  | 1 => some .pass | 2 => some .part | 3 => some .fail | 4 => some .noResponse | 5 => some .abortedMains
  | 6 => some .abortedConflict | 7 => some .abortedLine | 8 => some .cancelled | 9 => some .abortedRestart | _ => none

def LResult.code : Option LResult → Byte
  | none => 0x00#8 | some .passed => 0x01#8 | some .failedEarly => 0x02#8 | some .noReply => 0x03#8
  | some .aborted => 0x04#8

/-- R157: a result code above 04h reads as none. -/
def LResult.ofCode : Nat → Option LResult
  | 1 => some .passed | 2 => some .failedEarly | 3 => some .noReply | 4 => some .aborted | _ => none

def TestState.code : TestState → Nat
  | .untested => 0 | .pendingStart => 1 | .discharging => 2 | .passed => 3 | .failedEarly => 4 | .noReply => 5
  | .excluded => 6 | .aborted => 7

/-- The reply codes of the admission notes (R175): 01h + n for failed condition n of R10. -/
def Note.code : Note → Byte
  | .notDue => 0x00#8 | .inClaim => 0x01#8 | .mode => 0x02#8 | .time => 0x03#8 | .mains => 0x04#8 | .outage => 0x05#8
  | .inhibit => 0x06#8 | .held => 0x07#8 | .backoff => 0x08#8 | .window => 0x09#8 | .noMember => 0x0A#8
  | .setFull => 0x0B#8 | .conflictOwn => 0x0C#8 | .conflictPeer => 0x0D#8 | .overflow => 0x0E#8 | .load => 0x0F#8
  | .outranked => 0x10#8 | .admitted => 0x11#8

/-- The mode code of BEACON and STATION STATUS (R175). LOADING is never sent. -/
def Mode.code : Mode → Byte
  | .loading => 0x00#8 | .listening => 0x01#8 | .coordinating => 0x02#8 | .isolated => 0x03#8 | .standalone => 0x04#8
  | .unconfigured => 0x05#8

def IsoReason.code : IsoReason → Byte
  | .noReason => 0x00#8 | .silence => 0x01#8 | .driver => 0x02#8

def Mains.code : Mains → Byte
  | .unknown => 0x00#8 | .on => 0x01#8 | .off => 0x02#8

def Contact.code : Contact → Byte
  | .unknown => 0x00#8 | .active => 0x01#8 | .inactive => 0x02#8

def Presence.code : Presence → Byte
  | .unknown => 0x00#8 | .present => 0x01#8 | .absent => 0x02#8

def BranchId.code : Option BranchId → Byte
  | some .branchA => 0x00#8 | some .branchB => 0x01#8 | none => 0xFF#8

def LoopSource.code : Option LoopSource → Byte
  | none => 0x00#8 | some .test => 0x01#8 | some .passThrough => 0x02#8 | some .sweep => 0x03#8

def LineRate.code : LineRate → Byte
  | .r2400 => 0x00#8 | .r4800 => 0x01#8 | .r9600 => 0x02#8

/-- R154: a line-rate code above 02h reads as 02h. -/
def LineRate.ofCode : Nat → LineRate
  | 0 => .r2400 | 1 => .r4800 | _ => .r9600

def Requester.code : Option Requester → Byte
  | none => 0x00#8 | some .appender => 0x01#8 | some .flusher => 0x02#8 | some .fill => 0x03#8

def Status.code : Status → Byte
  | .ok => 0x00#8 | .retry => 0x01#8 | .busy => 0x02#8 | .notSent => 0x03#8 | .noReply => 0x04#8
  | .refusedSource => 0x05#8 | .refusedKey => 0x06#8 | .notApplicable => 0x07#8 | .badArgument => 0x08#8
  | .corrupt => 0x09#8 | .unconfigured => 0x0A#8

def DetailClass.code : DetailClass → Byte
  | .noDetail => 0x00#8 | .group => 0x01#8 | .luminaire => 0x02#8 | .lineLost => 0x03#8 | .frameKind => 0x04#8
  | .eventNumber => 0x05#8 | .console => 0x06#8

def LoopCommand.code : LoopCommand → Byte
  | .probe => 0x01#8 | .start => 0x02#8 | .endTest => 0x03#8

/-- The kind character of a frame (section 8.2). -/
def TxFrame.kind : TxFrame → Byte
  | .beacon => 0x01#8 | .claim _ _ => 0x02#8 | .release _ _ => 0x03#8 | .reply _ => 0x11#8 | .event _ => 0x13#8

/-! ### Coordination-line frames -/

/-- The CLAIM payload of section 2.3. -/
def ClaimBody.bytes (g : Nat) (c : ClaimBody) : List Byte :=
  [byte g, c.phase.code] ++ bytesBE 2 c.urgency ++ [byte c.weight] ++ bytesBE 2 c.remaining ++ bytesBE 2 c.home ++
    [byte c.neighbours.length] ++ c.neighbours.flatMap (bytesBE 2)

/-- The BEACON payload of section 2.3. -/
def BeaconBody.bytes (b : BeaconBody) : List Byte :=
  [b.mode.code, flag b.valid] ++ bytesBE 4 b.minutes ++ bytesBE 2 b.weight ++ [byte b.claims.length] ++
    b.claims.flatMap (fun c => [byte c.1, c.2.code])

/-- A detail as it is sent: class, then value (section 10.1). -/
def Detail.bytes (d : Detail) : List Byte := [d.cls.code, byte d.value]

/-- The EVENT payload of section 10.1. -/
def Report.bytes (r : Report) : List Byte := [byte r.event] ++ r.detail.bytes ++ bytesBE 4 r.minutes

/-- The REPLY payload of section 11.1. -/
def Reply.bytes (r : Reply) : List Byte := [r.status.code] ++ r.echo ++ r.data

/-- The destination of a frame: broadcast for the protocol frames and BEACON, the console otherwise. -/
def TxFrame.destination : TxFrame → Byte
  | .claim _ _ => 0x00#8 | .release _ _ => 0x00#8 | .beacon => 0x00#8 | .reply r => r.console | .event r => r.console

/-- The payload of a frame, with the contents a BEACON is given when it becomes current (R30). -/
def TxFrame.payload (beacon : BeaconBody) : TxFrame → List Byte
  | .claim g c => c.bytes g
  | .release g reason => [byte g, reason.code]
  | .beacon => beacon.bytes
  | .reply r => r.bytes
  | .event r => r.bytes

/-- The characters of a frame from address `source`: header, payload and check (section 8.2). -/
def TxFrame.chars (source : Nat) (beacon : BeaconBody) (f : TxFrame) : List Byte :=
  let payload := f.payload beacon
  withCrc16 ([byte source, f.destination, f.kind, byte payload.length] ++ payload)

/-! ### Characters on the line (R140) -/

/-- R140: a data bit of 0 is sent dominant and a data bit of 1 recessive. -/
def dataLevel (bit : Bool) : LineLevel := if bit then .recessive else .dominant

/-- R140: the ten bit times of a character: a dominant start bit, the data bits, least significant first, and a recessive
stop bit. -/
def charLevels (c : Byte) : List LineLevel :=
  [.dominant] ++ (List.range 8).map (fun i => dataLevel (c.getLsbD i)) ++ [.recessive]

/-- R140, section 8.1: the levels of a frame, one for each bit time, its characters with nothing between them. -/
def Current.levels (c : Current) : List LineLevel := c.chars.flatMap charLevels

/-- R140: bits per second. -/
def LineRate.bitRate : LineRate → Nat
  | .r2400 => 2400 | .r4800 => 4800 | .r9600 => 9600

/-! ### Loop frames -/

/-- The command frame of R96; `argument` is START's self-end minutes. -/
def loopFrame (n : Nat) (command : LoopCommand) (argument : List Byte) : List Byte :=
  let body := [byte n, command.code] ++ argument
  body ++ [crc8 body]

/-- A good reply as R97 takes it: bits 3 to 7 of the two flag characters play no part. -/
structure LoopReply where
  status : Byte
  volts : Byte
  faults : Byte
  deriving DecidableEq, Repr

/-- R97: the reply that the characters received in the window make, if they make a good one from luminaire `n`.
Each of the five has its stop bit at the idle level; characters after the fifth are ignored. -/
def goodReply (n : Nat) (chars : List LoopChar) : Option LoopReply :=
  match (chars.take 5).all LoopChar.stop, chars.map LoopChar.value with
  | true, address :: status :: volts :: faults :: check :: _ =>
    if check = crc8 [address, status, volts, faults] ∧ address = byte n then
      some { status := status &&& 0x07#8, volts := volts, faults := faults &&& 0x07#8 }
    else none
  | _, _ => none

/-- Bit 0, bit 1 and bit 2 of the status flags (R97). -/
def LoopReply.lampLit (r : LoopReply) : Bool := r.status.getLsbD 0
def LoopReply.onBattery (r : LoopReply) : Bool := r.status.getLsbD 1
def LoopReply.inTest (r : LoopReply) : Bool := r.status.getLsbD 2

/-! ### Stored records (section 9.2) -/

/-- A value brought to the nearest limit of its range. -/
def clamp (low high n : Nat) : Nat := max low (min high n)

/-- The stored phases of a group record. -/
inductive StoredPhase where
  | idle | testing | recovering
  deriving DecidableEq, Repr

/-- R159: the stored phase is IDLE while the group is IDLE, DUE or PROPOSED. -/
def GState.stored : GState → StoredPhase
  | .testing => .testing
  | .recovering => .recovering
  | _ => .idle

def StoredPhase.code : StoredPhase → Byte
  | .idle => 0x01#8 | .testing => 0x02#8 | .recovering => 0x03#8

def StoredPhase.ofCode : Nat → Option StoredPhase
  | 1 => some .idle | 2 => some .testing | 3 => some .recovering | _ => none

/-- A calendar field in which FFFFFFFFh stands for NEVER or none. -/
def timeOf (n : Nat) : Option Nat := if n = 0xFFFFFFFF then none else some n

/-- R159: the recharge remaining of the working group record. -/
def Group.storedRecharge (gr : Group) : Nat :=
  match gr.state with
  | .recovering => gr.recharge.getD 0
  | _ => 0

/-- Bytes 0 to 14 of a group's working record. -/
def Group.recordBytes (gr : Group) : List Byte :=
  [gr.state.stored.code] ++ optBE 4 gr.lastTested ++ [GResult.code gr.lastResult, byte gr.fails, flag gr.held] ++
    bytesBE 2 gr.storedRecharge ++ optBE 4 gr.recTestStart ++ optBE 1 gr.recFirstFailing

/-- A group record as R156 reads it. -/
structure GroupRecord where
  phase : StoredPhase
  lastTested : Option Nat
  lastResult : Option GResult
  fails : Nat
  held : Bool
  recharge : Nat
  testStart : Option Nat
  firstFailing : Option Nat
  deriving DecidableEq, Repr

/-- R156: the record that 32 bytes hold, or none where they are damaged. -/
def GroupRecord.read (bytes : List Byte) : Option GroupRecord :=
  match crc16Good bytes, StoredPhase.ofCode (byteAt bytes 0) with
  | true, some phase =>
    some
      { phase := phase
        lastTested := timeOf (fieldAt bytes 1 4)
        lastResult := GResult.ofCode (byteAt bytes 5)
        fails := min 7 (byteAt bytes 6)
        held := decide (byteAt bytes 7 ≠ 0)
        recharge := min 2880 (fieldAt bytes 8 2)
        testStart := timeOf (fieldAt bytes 10 4)
        firstFailing := if byteAt bytes 14 ≤ 0x7F then some (byteAt bytes 14) else none }
  | _, _ => none

/-- Bytes 0 to 9 of a luminaire's working record. -/
def LumRecord.bytes (r : LumRecord) : List Byte :=
  optBE 4 r.time ++ [LResult.code r.result, byte r.achieved, r.volts, r.faults, byte r.next, byte r.count]

/-- R157: the record that 32 bytes hold, or none where the CRC fails. -/
def LumRecord.read (bytes : List Byte) : Option LumRecord :=
  if crc16Good bytes then
    some
      { time := timeOf (fieldAt bytes 0 4)
        result := LResult.ofCode (byteAt bytes 4)
        achieved := byteAt bytes 5
        volts := bytes.getD 6 0#8
        faults := bytes.getD 7 0#8
        next := if byteAt bytes 8 ≤ 7 then byteAt bytes 8 else 0
        count := min 8 (byteAt bytes 9) }
  else none

/-- Bytes 0 to 7 of a history line. -/
def HistLine.bytes (l : HistLine) : List Byte :=
  bytesBE 4 l.time ++ [byte l.group, LResult.code (some l.result), byte l.achieved, l.volts]

/-- The offsets of the memory map (R153). -/
def groupOffset (g : Nat) : Nat := 0x0200 + 32 * g
def lumOffset (n : Nat) : Nat := 0x0800 + 32 * n
def historyOffset (n slot : Nat) : Nat := 0x2000 + 128 * n + 16 * slot

/-! ### The configuration block (section 9.2, R154, R155) -/

/-- R154: an entry counts when its first byte is not 00h and its address is a console's. -/
def ConsoleEntry.read (bytes : List Byte) (offset : Nat) : ConsoleEntry :=
  let address := bytes.getD (offset + 1) 0#8
  { on := decide (byteAt bytes offset ≠ 0) && decide (224 ≤ address.toNat) && decide (address.toNat ≤ 247)
    address := address }

/-- The push destination that an event's nibble of the report selection names, none for poll. -/
def selectionOf (bytes : List Byte) (event : Nat) : Option Nat :=
  let packed := byteAt bytes (0x003A + event / 2)
  let nibble := if event % 2 = 0 then packed / 16 else packed % 16
  if 8 ≤ nibble ∧ nibble % 8 ≤ 3 then some (nibble % 8) else none

/-- R154: the station fields of a configuration block, each brought into range. -/
def Figures.read (bytes : List Byte) : Figures :=
  { address := clamp 1 222 (byteAt bytes 0x00)
    rate := LineRate.ofCode (byteAt bytes 0x01)
    beacon := clamp 2 10 (byteAt bytes 0x02)
    cap := clamp 1 4000 (fieldAt bytes 0x03 2)
    reducedLimit := clamp 1 4 (byteAt bytes 0x05)
    silence := clamp 5 60 (byteAt bytes 0x06)
    isolationLimit := clamp 1 15 (byteAt bytes 0x07)
    fallback := decide (byteAt bytes 0x08 ≠ 0)
    fallbackDays := clamp 1 30 (byteAt bytes 0x09)
    grace := min 180 (byteAt bytes 0x0A)
    validation := clamp 1 60 (byteAt bytes 0x0B)
    sweepPeriod := clamp 10 240 (byteAt bytes 0x0C)
    aBase := min 127 (byteAt bytes 0x0D)
    aLimit := min 127 (byteAt bytes 0x0E)
    bBase := min 127 (byteAt bytes 0x0F)
    bLimit := min 127 (byteAt bytes 0x10)
    window := (List.range 168).map (fun h => (byteAt bytes (0x0011 + h / 8)).testBit (h % 8))
    authorised := (List.range 4).map (fun i => ConsoleEntry.read bytes (0x0026 + 2 * i))
    destinations := (List.range 4).map (fun i => ConsoleEntry.read bytes (0x002E + 2 * i))
    mask := (List.range 26).map (fun k => (fieldAt bytes 0x0036 4).testBit k)
    selection := (List.range 26).map (selectionOf bytes) }

/-- R155: the addresses that one member run names, in ascending order. -/
def memberRun (base limit : Nat) : List Nat :=
  (List.range 128).filter (fun n => decide (min 127 base ≤ n) && decide (n ≤ min 127 limit))

/-- R155: the addresses that either run names, in ascending order, each once. -/
def namedMembers (bytes : List Byte) (offset : Nat) : List Nat :=
  let run1 := memberRun (byteAt bytes offset) (byteAt bytes (offset + 1))
  let run2 := memberRun (byteAt bytes (offset + 2)) (byteAt bytes (offset + 3))
  (List.range 128).filter (fun n => run1.contains n || run2.contains n)

/-- The seven 10-bit zone numbers of a group definition, the home zone first. -/
def zonesAt (bytes : List Byte) (offset : Nat) : List Nat :=
  let packed := fieldAt bytes (offset + 4) 9
  (List.range 7).map (fun i => packed / 2 ^ (62 - 10 * i) % 1024)

/-- R1: the definition of one group, its members given. -/
def GroupDef.read (bytes : List Byte) (offset : Nat) (members : List Nat) : GroupDef :=
  let zones := zonesAt bytes offset
  let interval := clamp 30 730 (fieldAt bytes (offset + 15) 2)
  { members := members
    home := clamp 1 1023 (zones.headD 0)
    neighbours := (zones.tail.filter (fun z => decide (z ≠ 0))).map (min 1023)
    minutes := clamp 30 240 (byteAt bytes (offset + 13))
    rechargeHours := clamp 4 48 (byteAt bytes (offset + 14))
    interval := interval
    early := min interval (min 60 (byteAt bytes (offset + 17))) }

/-- R1, R155: the definitions of the groups from the `g`-th on, `taken` being the luminaires that lower groups keep. -/
def buildDefs (bytes : List Byte) : Nat → Nat → List Nat → List GroupDef
  | 0, _, _ => []
  | k + 1, g, taken =>
    let offset := 0x0048 + 18 * g
    let members := (namedMembers bytes offset).filter (fun n => !taken.contains n)
    GroupDef.read bytes offset members :: buildDefs bytes k (g + 1) (taken ++ members)

/-- R94: the branch of a loop address. -/
def branchOf (f : Figures) (n : Nat) : Option BranchId :=
  if f.aBase ≤ n ∧ n ≤ f.aLimit then some .branchA
  else if f.bBase ≤ n ∧ n ≤ f.bLimit then some .branchB
  else none

end Sys2Proof.Machine
end

