-- ==== Sys2Proof/Machine/Operands.lean ====
section
/-! DEFINITION. The operand forms: CLAIM, RELEASE and BEACON payloads as R28 reads them, the arguments of a QUERY and of a
COMMAND (section 11.1), and a frame's characters as the receiver takes them apart (R142, R143). -/

namespace Sys2Proof.Machine

/-- A CLAIM as R28 leaves it. -/
structure ClaimFrame where
  group : Nat
  phase : Phase
  weight : Nat
  full : FullClaim
  deriving DecidableEq, Repr

/-- A RELEASE as R28 leaves it. -/
structure ReleaseFrame where
  group : Nat
  deriving DecidableEq, Repr

/-- A BEACON as R28 leaves it. -/
structure BeaconFrame where
  valid : Bool
  minutes : Nat
  weight : Nat
  claims : List (Nat × Phase)
  deriving DecidableEq, Repr

/-- R28: a CLAIM payload; none where it is discarded. -/
def ClaimFrame.read (p : List Byte) : Option ClaimFrame :=
  let k := min 6 (byteAt p 9)
  match Phase.ofCode (byteAt p 1) with
  | some phase =>
    if 10 + 2 * k ≤ p.length ∧ byteAt p 0 ≤ 0x17 then
      some
        { group := byteAt p 0
          phase := phase
          weight := clamp 1 128 (byteAt p 4)
          full :=
            { urgency := min 1023 (fieldAt p 2 2)
              home := min 1023 (fieldAt p 7 2)
              neighbours := (List.range k).map (fun i => min 1023 (fieldAt p (10 + 2 * i) 2))
              remaining := fieldAt p 5 2 } }
    else none
  | none => none

/-- R28: a RELEASE payload; none where it is discarded. -/
def ReleaseFrame.read (p : List Byte) : Option ReleaseFrame :=
  if 2 ≤ p.length ∧ byteAt p 0 ≤ 0x17 ∧ 1 ≤ byteAt p 1 ∧ byteAt p 1 ≤ 3 then some { group := byteAt p 0 } else none

/-- R28: the pairs of a BEACON's list; none where one names a group or a phase that is none. -/
def readPairs : Nat → List Byte → Option (List (Nat × Phase))
  | 0, _ => some []
  | k + 1, g :: ph :: rest =>
    match Phase.ofCode ph.toNat, readPairs k rest with
    | some phase, some pairs => if g.toNat ≤ 0x17 then some ((g.toNat, phase) :: pairs) else none
    | _, _ => none
  | _ + 1, _ => none

/-- R28: a BEACON payload; none where it is discarded. -/
def BeaconFrame.read (p : List Byte) : Option BeaconFrame :=
  match readPairs (min 4 (byteAt p 8)) (p.drop 9) with
  | some pairs =>
    if 9 ≤ p.length then
      some
        { valid := decide (byteAt p 1 = 1), minutes := fieldAt p 2 4, weight := fieldAt p 6 2, claims := pairs }
    else none
  | none => none

/-- R57: the first pair that names a group is used, and the later ones are ignored. -/
def firstPairs : List (Nat × Phase) → List (Nat × Phase)
  | [] => []
  | c :: cs => c :: (firstPairs cs).filter (fun d => decide (d.1 ≠ c.1))

/-- A 4-byte argument (SET TIME, CLEAR EVENTS). -/
def argument32 (args : List Byte) : Option Nat := if 4 ≤ args.length then some (fieldAt args 0 4) else none

/-- A one-byte argument within a range (a group, a luminaire). -/
def argumentBelow (limit : Nat) (args : List Byte) : Option Nat :=
  if 1 ≤ args.length ∧ byteAt args 0 < limit then some (byteAt args 0) else none

/-- Section 11.1: the item codes of a QUERY and the command codes of a COMMAND. -/
def knownItem (code : Nat) : Bool := decide (0x01 ≤ code) && decide (code ≤ 0x07)
def knownCommand (code : Nat) : Bool := decide (0x21 ≤ code) && decide (code ≤ 0x29)

/-- The characters that a frame's header requires in all (section 8.2), once the length character has been received. -/
def frameLength (chars : List Byte) : Option Nat := if 4 ≤ chars.length then some (6 + byteAt chars 3) else none

/-- R142: whether a frame may end this way after these characters. -/
def breakFits (how : RxBreak) (chars : List Byte) : Bool :=
  match how, frameLength chars with
  | .oversize, some n => decide (46 < n)
  | .oversize, none => false
  | _, some n => decide (n ≤ 46 ∧ chars.length < n)
  | _, none => true

/-- R142: the ways a frame ends that the CRC error counter counts. -/
def breakCounted : RxBreak → Bool
  | .stopDominant => true
  | .idleEarly => true
  | .oversize => false
  | .lineHeld => false

/-- R142: a complete frame has exactly the characters its length requires. -/
def completeFrame (chars : List Byte) : Bool :=
  match frameLength chars with
  | some n => decide (n ≤ 46 ∧ chars.length = n)
  | none => false

end Sys2Proof.Machine
end

