-- ==== Sys2Proof/Config.lean ====
section
/-! DEFINITION. The free values: what the manual leaves open after a step that all the same goes on.
Each is an opaque constant applied to the counter `State.free`, so nothing in Lean can evaluate it and a
statement that holds, holds whatever the value is. -/

namespace Sys2Proof.Config

/-- FREE VALUE (log 4, log 5): a byte the manual gives no value: a byte of a stored record or history line that no
table of section 9.2 names, or an echo byte of a REPLY whose request carried no such byte (section 11.1). -/
opaque freeByte : Nat → Byte

/-- FREE VALUE (log 3): how far a memory write had come when a reset or a loss of supply abandoned it (R153). -/
opaque tornLength : Nat → Nat

end Sys2Proof.Config
end

