-- ==== Sys2Proof/Machine/Ops.lean ====
section
/-! DEFINITION. The named operations over the tables, the tick and the record memory: every read and every update of a group,
a luminaire, a branch, the line or the memory goes through one of these. -/

namespace Sys2Proof.Machine

/-! ### Group table -/

def groupNumbers : List Nat := List.range 24

def lumAddresses : List Nat := List.range 128

/-- The entry of a group; a number outside the table reads as an UNUSED entry. -/
def State.group (s : State) (g : Nat) : Group := s.groups.getD g Group.empty

def State.modGroup (s : State) (g : Nat) (f : Group → Group) : State := { s with groups := s.groups.modify g f }

/-- R1: the number of members that remain. -/
def Group.weight (gr : Group) : Nat := gr.defn.members.length

/-- A group in use is one that is not UNUSED. -/
def Group.inUse (gr : Group) : Bool := decide (gr.state ≠ .unused)

/-- Section 1.3: the states of the own reduced set. -/
def GState.reduced : GState → Bool
  | .proposed => true
  | .testing => true
  | .recovering => true
  | _ => false

/-- The states in which the group stands under a TESTING or RECOVERING claim. -/
def GState.past : GState → Bool
  | .testing => true
  | .recovering => true
  | _ => false

/-- R3: the new state, with the record dirty where the stored phase changes. -/
def Group.enter (gr : Group) (state : GState) : Group :=
  { gr with state := state, dirty := gr.dirty || decide (gr.state.stored ≠ state.stored) }

/-- The groups whose state satisfies a test, ascending. -/
def State.groupsIn (s : State) (p : GState → Bool) : List Nat := groupNumbers.filter (fun g => p (s.group g).state)

/-- The own reduced set, in ascending group number. -/
def State.ownSet (s : State) : List Nat := s.groupsIn GState.reduced

/-- R13: the own reduced weight. -/
def State.ownWeight (s : State) : Nat := (s.ownSet.map (fun g => (s.group g).weight)).sum

/-- The groups in use, ascending. -/
def State.usedGroups (s : State) : List Nat := groupNumbers.filter (fun g => (s.group g).inUse)

/-! ### Luminaire table -/

def State.lum (s : State) (n : Nat) : Lum := s.lums.getD n Lum.empty

def State.modLum (s : State) (n : Nat) (f : Lum → Lum) : State := { s with lums := s.lums.modify n f }

/-- The group a luminaire is a member of (R1: at most one), if any. -/
def State.groupOf (s : State) (n : Nat) : Option Nat :=
  groupNumbers.find? (fun g => (s.group g).defn.members.contains n)

/-- R69: the two states under test. -/
def TestState.live : TestState → Bool
  | .pendingStart => true
  | .discharging => true
  | _ => false

/-- R68: under test is PENDING_START or DISCHARGING while the luminaire's group is TESTING. -/
def State.underTest (s : State) (n : Nat) : Bool :=
  (s.lum n).test.live &&
    match s.groupOf n with
    | some g => decide ((s.group g).state = .testing)
    | none => false

/-! ### Loop branches -/

def State.branch (s : State) : BranchId → Branch
  | .branchA => s.loop.a
  | .branchB => s.loop.b

def State.setBranch (s : State) (b : BranchId) (v : Branch) : State :=
  match b with
  | .branchA => { s with loop := { s.loop with a := v } }
  | .branchB => { s with loop := { s.loop with b := v } }

/-- Whether a luminaire's branch is DOWN; false for a luminaire on no branch. -/
def State.branchDown (s : State) (n : Nat) : Bool :=
  match (s.lum n).branch with
  | some b => (s.branch b).down
  | none => false

/-- R12: testable is not ABSENT, on a branch, and that branch not DOWN. -/
def State.testable (s : State) (n : Nat) : Bool :=
  decide ((s.lum n).presence ≠ .absent) && (s.lum n).branch.isSome && !s.branchDown n

/-- Whether the test engine's own transaction with this command is in flight for a luminaire. -/
def State.testInFlight (s : State) (n : Nat) (c : LoopCommand) : Bool :=
  match (s.lum n).branch with
  | some b =>
    match (s.branch b).txn with
    | some t => decide (t.lum = n ∧ t.command = c ∧ t.source = .test)
    | none => false
  | none => false

/-! ### Tick (R111) -/

/-- The tick reading in milliseconds. -/
def State.now (s : State) : Nat := s.clock.seconds * 1000 + s.clock.ms

/-- The step falls at millisecond part `ms` of the present tick second; the tick never runs back (log 6). -/
def State.atMs (s : State) (ms : Nat) : State := { s with clock := { s.clock with ms := max s.clock.ms (min ms 999) } }

/-- Whole minutes between two stamps on the tick, formed in milliseconds (R111). -/
def minutesBetween (earlier later : Nat) : Nat := (later - earlier) / 60000

/-- A countdown on the tick: it stops at 0, and a stopped one stays stopped. -/
def countDown (c : Option Nat) : Option Nat := c.map (fun k => k - 1)

/-- A countdown that some step finds at 0. -/
def expired (c : Option Nat) : Bool := decide (c = some 0)

/-- R119: the latch found set is cleared, the counts go to 0 and time-valid is cleared. -/
def Calendar.checkLatch (c : Calendar) : Calendar :=
  if c.oscStop then { minutes := 0, seconds := 0, valid := false, oscStop := false } else c

/-! ### Station address and modes -/

/-- R50, R127: the modes in which the station takes part on the line. -/
def Mode.configured : Mode → Bool
  | .listening => true
  | .coordinating => true
  | .isolated => true
  | .standalone => true
  | _ => false

/-- The address classes of 00_scope. -/
def stationAddress (a : Nat) : Bool := decide (1 ≤ a) && decide (a ≤ 222)
def consoleAddress (a : Nat) : Bool := decide (224 ≤ a) && decide (a ≤ 247)

/-! ### Free values -/

/-- The next `k` free bytes (log 4, log 5). -/
def State.freeBytes (s : State) (k : Nat) : List Byte := (List.range k).map (fun i => Config.freeByte (s.free + i))

def State.tookFree (s : State) (k : Nat) : State := { s with free := s.free + k }

/-! ### Nonvolatile memory (R153) -/

/-- What an offset that is not listed reads as (log 8). -/
def Memory.blank : Byte := 0xFF#8

/-- The canonical form: offsets strictly rising, no listed byte equal to what an unlisted offset reads as. -/
abbrev Memory.wf (m : Memory) : Prop := List.Pairwise (fun x y => x.1 < y.1) m ∧ ∀ c ∈ m, c.2 ≠ Memory.blank

def Memory.read (m : Memory) (a : Nat) : Byte :=
  match m.find? (fun c => c.1 == a) with
  | some c => c.2
  | none => Memory.blank

def Memory.readRun (m : Memory) (base len : Nat) : List Byte := (List.range len).map (fun i => m.read (base + i))

/-- The cells of a run of bytes, without those that need no listing. -/
def Memory.cells : Nat → List Byte → Memory
  | _, [] => []
  | a, b :: bs => if b = Memory.blank then Memory.cells (a + 1) bs else (a, b) :: Memory.cells (a + 1) bs

/-- The memory after a run of bytes is put down. -/
def Memory.write (m : Memory) (base : Nat) (bytes : List Byte) : Memory :=
  m.filter (fun c => decide (c.1 < base)) ++ Memory.cells base bytes ++
    m.filter (fun c => decide (base + bytes.length ≤ c.1))

/-- A read of `len` bytes at `base`: the memory after it and the bytes as they arrive (log 7). -/
def Memory.answer (m : Memory) (base len : Nat) : MemAnswer → Memory × List Byte
  | .held => (m, m.readRun base len)
  | .rewritten bytes => (m.write base (bytes.take len), (m.write base (bytes.take len)).readRun base len)
  | .absent => (m, List.replicate len 0xFF#8)

def State.setNvm (s : State) (m : Memory) : State := { s with mem := { s.mem with nvm := m } }

/-- The bytes of a write in flight and where they go. -/
def MemTxn.write : MemTxn → Option (Nat × List Byte)
  | .append _ offset bytes => some (offset, bytes)
  | .flushGroup _ offset bytes => some (offset, bytes)
  | .flushLum _ offset bytes => some (offset, bytes)
  | .fill _ _ => none

/-- R153: a transaction in flight is abandoned; of a write, some first part has been put down (log 3). -/
def State.abandonMemory (s : State) : State :=
  match s.mem.txn.bind MemTxn.write with
  | some (offset, bytes) =>
    (s.setNvm (s.mem.nvm.write offset (bytes.take (Config.tornLength s.free % (bytes.length + 1))))).tookFree 1
  | none => s

end Sys2Proof.Machine
end

