-- ==== Sys2Proof/Machine/Arith.lean ====
section
/-! DEFINITION. The arithmetic of the chapters: age, urgency, window, backoff, recharge, conflict and precedence (R6, R7, R11,
R16, R24, R25, R83), and the admission test (R10, R137). -/

namespace Sys2Proof.Machine

/-- R6: the age in whole days at calendar minute `now` of a group last tested at `p`. -/
def ageDays (now : Nat) (p : Option Nat) : Nat :=
  match p with
  | none => 4095
  | some t => if now < t then 0 else min 4095 ((now - t) / 1440)

/-- R7: eligibility by date. -/
def eligible (d : GroupDef) (age : Nat) : Bool := decide (d.interval - d.early ≤ age)

/-- R7: the urgency of an eligible group that is not forced. -/
def eligibleUrgency (d : GroupDef) (age fails : Nat) : Nat :=
  min 1023 (256 * (age - (d.interval - d.early) + 1) / (d.early + 1) + 32 * fails)

/-- R7, with a valid calendar. -/
def urgencyAt (d : GroupDef) (age fails : Nat) (forced : Bool) : Nat :=
  match eligible d age, forced with
  | false, false => 0
  | false, true => min 1023 (512 + 32 * fails)
  | true, false => eligibleUrgency d age fails
  | true, true => max 512 (eligibleUrgency d age fails)

/-- R6: the age of a group now; not known while the calendar is not valid. -/
def State.ageNow (s : State) (gr : Group) : Option Nat :=
  if s.calendar.valid then some (ageDays s.calendar.minutes gr.lastTested) else none

/-- R7: the urgency of a group now; 0 while the calendar is not valid. -/
def State.urgencyNow (s : State) (gr : Group) : Nat :=
  match s.ageNow gr with
  | some a => urgencyAt gr.defn a gr.fails gr.forced
  | none => 0

/-- R9: the bound of the overdue latch and of admission in STANDALONE. -/
def State.pastGrace (s : State) (gr : Group) (age : Nat) : Bool := decide (gr.defn.interval + s.figures.grace ≤ age)

/-- R11: the weekly window is open for a test of `minutes` starting at calendar minute `now`. -/
def windowOpen (window : List Bool) (now minutes : Nat) : Bool :=
  (List.range ((now + minutes + 15) / 60 - now / 60 + 1)).all (fun i => window.getD ((now / 60 + i) % 168) false)

def State.windowFor (s : State) (gr : Group) : Bool :=
  windowOpen s.figures.window s.calendar.minutes gr.defn.minutes

/-- R16: the withdrawal backoff in minutes. -/
def backoffMinutes (claimUrgency address : Nat) : Nat := 2 + (1023 - claimUrgency) / 64 + address % 8

/-- R83: the recharge after a test that ended `e` whole minutes in. -/
def earlyRecharge (hours minutes e : Nat) : Nat :=
  min (60 * hours) (max 60 ((60 * hours * e + minutes - 1) / minutes))

/-- R24: the conflict relation between two sides' zones. Zone 0 matches nothing. -/
def zonesConflict (home1 : Nat) (near1 : List Nat) (home2 : Nat) (near2 : List Nat) : Bool :=
  (decide (home1 ≠ 0) && (decide (home1 = home2) || near2.contains home1)) ||
    (decide (home2 ≠ 0) && near1.contains home2)

def GroupDef.conflicts (d : GroupDef) (home : Nat) (near : List Nat) : Bool :=
  zonesConflict home near d.home d.neighbours

/-- R25: whether the first claim has precedence over the second. -/
def precedes (urgency1 station1 group1 urgency2 station2 group2 : Nat) : Bool :=
  decide (urgency2 < urgency1) ||
    (decide (urgency1 = urgency2) &&
      (decide (station1 < station2) || (decide (station1 = station2) && decide (group1 < group2))))

/-- The station's own address as configured (R16, R25). -/
def State.ownAddress (s : State) : Nat := s.figures.address

/-- R62: the groups in use that a full claim's zones conflict with, ascending. -/
def State.conflictMask (s : State) (home : Nat) (near : List Nat) : List Nat :=
  s.usedGroups.filter (fun g => (s.group g).defn.conflicts home near)

/-- R64: the view load. -/
def State.viewLoad (s : State) : Nat := (s.view.map Entry.weight).sum

/-- R12: some member is testable. -/
def State.someTestable (s : State) (gr : Group) : Bool := gr.defn.members.any s.testable

/-- R10, conditions 1, 10 and 14, which R137 replaces in STANDALONE. -/
def State.modeAllows (s : State) (gr : Group) : Bool :=
  match s.sup.mode with
  | .coordinating => true
  | .standalone =>
    match gr.age with
    | some a => s.pastGrace gr a
    | none => false
  | _ => false

def State.setAllows (s : State) : Bool :=
  match s.sup.mode with
  | .standalone => s.ownSet.isEmpty
  | _ =>
    decide (s.ownSet.length < s.figures.reducedLimit) &&
      decide ((s.groupsIn (fun st => decide (st = .proposed ∨ st = .testing))).length < 2)

def State.loadAllows (s : State) (gr : Group) : Bool :=
  match s.sup.mode with
  | .standalone => decide (s.ownWeight + gr.weight ≤ s.figures.cap)
  | _ => decide (s.viewLoad + s.ownWeight + gr.weight ≤ s.figures.cap)

/-- R10: the conditions with their notes, in the order they are evaluated. -/
def State.conditions (s : State) (g : Nat) : List (Bool × Note) :=
  let gr := s.group g
  [ (s.modeAllows gr, .mode),
    (s.calendar.valid, .time),
    (decide (s.inputs.mains = .on), .mains),
    (decide (s.inputs.outageHold = 0), .outage),
    (decide (s.inputs.inhibit = .inactive), .inhibit),
    (!gr.held, .held),
    (decide (gr.backoff = 0), .backoff),
    (s.windowFor gr, .window),
    (s.someTestable gr, .noMember),
    (s.setAllows, .setFull),
    (s.ownSet.all (fun h => !gr.defn.conflicts (s.group h).defn.home (s.group h).defn.neighbours), .conflictOwn),
    (s.view.all (fun e => !e.mask.contains g), .conflictPeer),
    (decide (s.overflow = none), .overflow),
    (s.loadAllows gr, .load) ]

/-- R14: the note of the first condition that fails, none for an admissible group. -/
def State.firstFailed (s : State) (g : Nat) : Option Note :=
  ((s.conditions g).find? (fun c => !c.1)).map Prod.snd

end Sys2Proof.Machine
end

