-- ==== Sys2Proof/Machine/Flags.lean ====
section
/-! DEFINITION. The event unit's flags (R167 to R170) and the outputs that are computed from the state: the HEALTHY relay and
the RUN, TEST and FAULT indicators (R171, R172), the levels a frame is sent as (R140) and the release of the memory lines
(R158). -/

namespace Sys2Proof.Machine

/-- The 26 events of section 10.1, in number order. -/
inductive Event where
  | configInvalid | timeInvalid | mainsLost | mainsRestored | inhibitStuck | groupPassed | groupFaulty | testAborted
  | luminaireAbsent | luminaireReturned | luminaireFault | branchDown | branchUp | isolated | standaloneEntered
  | driverCut | lineHeld | peerViewFull | loadOver | conflictLate | txDropped | serviceRefused | recordCrcError
  | reportOverrun | overdue | routeFail
  deriving DecidableEq, Repr

def Event.number : Event → Nat
  | .configInvalid => 0 | .timeInvalid => 1 | .mainsLost => 2 | .mainsRestored => 3 | .inhibitStuck => 4
  | .groupPassed => 5 | .groupFaulty => 6 | .testAborted => 7 | .luminaireAbsent => 8 | .luminaireReturned => 9
  | .luminaireFault => 10 | .branchDown => 11 | .branchUp => 12 | .isolated => 13 | .standaloneEntered => 14
  | .driverCut => 15 | .lineHeld => 16 | .peerViewFull => 17 | .loadOver => 18 | .conflictLate => 19
  | .txDropped => 20 | .serviceRefused => 21 | .recordCrcError => 22 | .reportOverrun => 23 | .overdue => 24
  | .routeFail => 25

/-- The fault class of section 10.1, by event number. -/
def faultClass : List Nat := [0, 1, 4, 6, 8, 10, 11, 13, 14, 15, 16, 22, 24, 25]

/-- The details of section 10.1. -/
def noDetail : Detail := { cls := .noDetail, value := 0 }
def groupDetail (g : Nat) : Detail := { cls := .group, value := g }
def lumDetail (n : Nat) : Detail := { cls := .luminaire, value := n }
def lostDetail (n : Nat) : Detail := { cls := .lineLost, value := n }
def kindDetail (kind : Byte) : Detail := { cls := .frameKind, value := kind.toNat }
def eventDetail (k : Nat) : Detail := { cls := .eventNumber, value := k }
def consoleDetail (a : Byte) : Detail := { cls := .console, value := a.toNat }

def EventUnit.cell (u : EventUnit) (k : Nat) : EventCell := u.cells.getD k EventCell.empty

def EventUnit.modCell (u : EventUnit) (k : Nat) (f : EventCell → EventCell) : EventUnit :=
  { u with cells := u.cells.modify k f }

/-- The console that event `k` is pushed to, where its selection is a push to a valid destination (R168). -/
def EventUnit.target (u : EventUnit) (k : Nat) : Option Byte :=
  match (u.cell k).push with
  | some i => if (u.destinations.getD i ConsoleEntry.off).on then some (u.destinations.getD i ConsoleEntry.off).address else none
  | none => none

/-- Whether an occurrence of `k` calls for a report: it is unmasked and its status was clear (R168). -/
def EventUnit.fresh (u : EventUnit) (k : Nat) : Bool := !(u.cell k).mask && !(u.cell k).status

/-- R168: the raw status, the detail and, if unmasked, the status of event `k` after an occurrence. -/
def EventUnit.record (u : EventUnit) (k : Nat) (d : Detail) : EventUnit :=
  u.modCell k (fun c => { c with raw := true, detail := d, status := c.status || !c.mask })

/-- The report of event `k` as it would be placed now, if it is pushed. -/
def EventUnit.reportFor (u : EventUnit) (k : Nat) (d : Detail) (minutes : Nat) : Option Report :=
  (u.target k).map (fun console => { event := k, detail := d, minutes := minutes, console := console })

/-- R169: a report is placed while the list holds fewer than 8. -/
def EventUnit.room (u : EventUnit) : Bool := decide (u.reports.length < 8)

def EventUnit.place (u : EventUnit) (r : Report) : EventUnit := { u with reports := u.reports ++ [r] }

/-- The occurrence of REPORT_OVERRUN that a report lost for want of room calls for: its own report, if lost too, raises
nothing further (R169). -/
def EventUnit.overrun (u : EventUnit) (lost minutes : Nat) : EventUnit :=
  let k := Event.reportOverrun.number
  let v := u.record k (eventDetail lost)
  match u.fresh k, u.reportFor k (eventDetail lost) minutes with
  | true, some r => if v.room then v.place r else v
  | _, _ => v

/-- R169: a report is placed, or lost with REPORT_OVERRUN. -/
def EventUnit.offer (u : EventUnit) (r : Report) (minutes : Nat) : EventUnit :=
  if u.room then u.place r else u.overrun r.event minutes

/-- R168: event `k` occurs with detail `d`. -/
def EventUnit.occur (u : EventUnit) (k : Nat) (d : Detail) (minutes : Nat) : EventUnit :=
  match u.fresh k, u.reportFor k d minutes with
  | true, some r => (u.record k d).offer r minutes
  | _, _ => u.record k d

/-- R168, at the whole machine: an event occurs at the present calendar minute. -/
def raise (e : Event) (d : Detail) (s : State) : State :=
  { s with events := s.events.occur e.number d s.calendar.minutes }

/-- R170: raw status and status of the named events are cleared; detail and reports stay. -/
def clearEvents (named : Nat) (s : State) : State :=
  { s with
    events :=
      { s.events with
        cells := s.events.cells.mapIdx
          (fun k c => if named.testBit k then { c with raw := false, status := false } else c) } }

/-- R167, first step: a status the loaded mask now masks is cleared, its raw status kept. -/
def EventUnit.configure (u : EventUnit) (f : Figures) : EventUnit :=
  { u with
    cells := u.cells.mapIdx
      (fun k c =>
        { c with
          mask := f.mask.getD k false
          status := c.status && !f.mask.getD k false
          push := f.selection.getD k none })
    destinations := f.destinations }

/-- R167, second step: a report for every event with its status set and pushed to a valid destination, in ascending
event number. The statuses are those the first step left (log 17). -/
def EventUnit.reportAll (u : EventUnit) (minutes : Nat) : EventUnit :=
  (List.range 26).foldl
    (fun v k =>
      match (u.cell k).status, v.reportFor k (v.cell k).detail minutes with
      | true, some r => v.offer r minutes
      | _, _ => v) u

/-- R167: the event unit takes the configured masks, selections and destinations. -/
def handOverEvents (f : Figures) (s : State) : State :=
  { s with events := (s.events.configure f).reportAll s.calendar.minutes }

/-! ### The line driver, relay, indicators and memory lines (R140, R171, R172, R158) -/

/-- R140: the levels that the transmission attempt now being made puts on the line, from its first start bit on, one for each
bit time; none while no frame is being sent. -/
def State.sentLevels (s : State) : List LineLevel :=
  match s.line.current with
  | some c => if c.sending then c.levels else []
  | none => []

/-- R158: in UNCONFIGURED the part holds its memory interface lines, MEM_CLK, MEM_SEL and MEM_DO, released. -/
def State.memoryReleased (s : State) : Bool := decide (s.sup.mode = .unconfigured)

/-- Whether no fault-class event has its status set. -/
def EventUnit.faultFree (u : EventUnit) : Bool := faultClass.all (fun k => !(u.cell k).status)

/-- R171: the HEALTHY output. -/
def State.healthy (s : State) : Bool :=
  s.powered && s.events.faultFree && (decide (s.sup.mode = .listening) || decide (s.sup.mode = .coordinating))

/-- R172: the FAULT indicator, lit while HEALTHY is released; dark without the main supply (POWER_LOSS). -/
def State.faultLamp (s : State) : Bool := s.powered && !s.healthy

/-- The patterns of R172. -/
inductive Pattern where
  | dark | steady | blink | fast | doubleFlash
  deriving DecidableEq, Repr

def State.runPattern (s : State) : Pattern :=
  if s.powered then
    match s.sup.mode with
    | .coordinating => .steady
    | .listening => .blink
    | .isolated => .fast
    | .standalone => .doubleFlash
    | .loading => .dark
    | .unconfigured => .dark
  else .dark

def State.testPattern (s : State) : Pattern :=
  if s.powered then
    if (s.groupsIn (fun st => decide (st = .testing))).isEmpty then
      if (s.groupsIn (fun st => decide (st = .recovering))).isEmpty then .dark else .blink
    else .steady
  else .dark

/-- Whether a lamp is lit `t` milliseconds after its pattern began. -/
def Pattern.lit (p : Pattern) (t : Nat) : Bool :=
  match p with
  | .dark => false
  | .steady => true
  | .blink => decide (t % 2000 < 1000)
  | .fast => decide (t % 500 < 250)
  | .doubleFlash => decide (t % 2000 < 200) || (decide (400 ≤ t % 2000) && decide (t % 2000 < 600))

def State.runLamp (s : State) : Bool := s.runPattern.lit (s.now - s.lamps.runSince)
def State.testLamp (s : State) : Bool := s.testPattern.lit (s.now - s.lamps.testSince)

/-- R172: each pattern begins at the moment its condition begins. -/
def relight (before after : State) : State :=
  { after with
    lamps :=
      { runSince := if before.runPattern = after.runPattern then after.lamps.runSince else after.now
        testSince := if before.testPattern = after.testPattern then after.lamps.testSince else after.now } }

/-- The outcome of a step that leads from `before` to `after`. -/
def done (before after : State) : Result := .next (relight before after)

/-- A step of a block that the main supply feeds: without it nothing happens (POWER_LOSS). -/
def live (s : State) (f : State → State) : Result := done s (if s.powered then f s else s)

end Sys2Proof.Machine
end

