-- ==== Sys2Proof/Machine/Queue.lean ====
section
/-! DEFINITION. The transmit queue and the protocol backlog: classes, merging, the full rules and the removal of frames
(R146, R147). -/

namespace Sys2Proof.Machine

/-- The classes of R146. -/
def TxFrame.isProtocol : TxFrame → Bool
  | .claim _ _ => true
  | .release _ _ => true
  | _ => false

def TxFrame.isBeacon : TxFrame → Bool
  | .beacon => true
  | _ => false

def TxFrame.isService : TxFrame → Bool
  | .reply _ => true
  | .event _ => true
  | _ => false

def TxFrame.isEvent : TxFrame → Bool
  | .event _ => true
  | _ => false

/-- A CLAIM for group `g`. -/
def TxFrame.claimOf (g : Nat) : TxFrame → Bool
  | .claim h _ => decide (h = g)
  | _ => false

/-- A CLAIM for group `g` with phase PROPOSED. -/
def TxFrame.proposalOf (g : Nat) : TxFrame → Bool
  | .claim h c => decide (h = g ∧ c.phase = .proposed)
  | _ => false

/-- Whether a waiting frame is the one that a newly offered frame takes the place of by CLAIM coalescing or RELEASE
merging (R146). -/
def TxFrame.mergesWith : TxFrame → TxFrame → Bool
  | .claim g _, .claim h _ => decide (g = h)
  | .release g _, .release h _ => decide (g = h)
  | _, _ => false

/-- The frames in the queue, waiting or current. -/
def Line.size (l : Line) : Nat := l.waiting.length + (if l.current.isSome then 1 else 0)

/-- R141: the queue holds 12 frames at most. -/
def queueLimit : Nat := 12

def Line.full (l : Line) : Bool := decide (queueLimit ≤ l.size)

/-- Each time a frame leaves the queue, the oldest frame of the backlog enters it (R147). -/
def Line.refill (l : Line) : Line :=
  { l with
    waiting := l.waiting ++ l.backlog.take (queueLimit - l.size)
    backlog := l.backlog.drop (queueLimit - l.size) }

/-- A list without its last element that satisfies a test, and that element. -/
def dropLast? (p : TxFrame → Bool) : List TxFrame → Option (List TxFrame × TxFrame)
  | [] => none
  | f :: fs =>
    match dropLast? p fs with
    | some (rest, found) => some (f :: rest, found)
    | none => if p f then some (fs, f) else none

def State.setLine (s : State) (l : Line) : State := { s with line := l }

/-- The RESTART's REPLY has left the queue (R178). -/
def noteGone (f : TxFrame) (s : State) : State :=
  match f with
  | .reply r => if r.restart then { s with service := { s.service with replyGone := true } } else s
  | _ => s

/-- A waiting frame lost to a frame of a higher class: an EVENT raises REPORT_OVERRUN with its event's number (R147). -/
def displaced (f : TxFrame) (s : State) : State :=
  match f with
  | .event r => raise .reportOverrun (eventDetail r.event) s
  | _ => noteGone f s

/-- R147: a frame offered to a queue of 12. -/
def offerFull (f : TxFrame) (s : State) : State :=
  if f.isService then s
  else
    match dropLast? TxFrame.isService s.line.waiting with
    | some (rest, lost) => displaced lost (s.setLine { s.line with waiting := rest ++ [f] })
    | none =>
      if f.isProtocol then
        match dropLast? TxFrame.isBeacon s.line.waiting with
        | some (rest, _) => s.setLine { s.line with waiting := rest ++ [f] }
        | none => s.setLine { s.line with backlog := s.line.backlog ++ [f] }
      else s

/-- A frame offered to the transmit queue (R146, R147). -/
def offer (f : TxFrame) (s : State) : State :=
  if s.line.waiting.any f.mergesWith then
    s.setLine { s.line with waiting := s.line.waiting.map (fun w => if f.mergesWith w then f else w) }
  else if s.line.backlog.any f.mergesWith then
    s.setLine { s.line with backlog := s.line.backlog.map (fun w => if f.mergesWith w then f else w) }
  else if s.line.full then offerFull f s
  else s.setLine { s.line with waiting := s.line.waiting ++ [f] }

/-- R31: a BEACON is offered unless one is waiting. -/
def offerBeacon (s : State) : State := if s.line.waiting.any TxFrame.isBeacon then s else offer .beacon s

/-- R148: if the queue becomes empty while the line interface is waiting, it stops waiting. A queue that the same step fills
again, as R33 and R44 do with a RELEASE, has become empty too: the model's choice (DESIGN CHOICE, log 40). -/
def Line.stopWaiting (l : Line) : Line := { l with slot := if l.size = 0 then none else l.slot }

/-- The waiting frames that satisfy a test are removed from the queue and the backlog; the frames behind them keep their
order (R146). -/
def removeWaiting (p : TxFrame → Bool) (s : State) : State :=
  s.setLine
    (Line.stopWaiting
      (Line.refill
        { s.line with
          waiting := s.line.waiting.filter (fun f => !p f)
          backlog := s.line.backlog.filter (fun f => !p f) }))

/-- The current frame leaves the queue, and the access begins again with a fresh frame (R148, R149). -/
def dropCurrent (s : State) : State :=
  match s.line.current with
  | some c => noteGone c.frame (s.setLine (Line.refill { s.line with current := none, slot := none }))
  | none => s

/-- R33, step 2: the group's CLAIM with phase PROPOSED leaves the queue, waiting or current. -/
def removeProposal (g : Nat) (s : State) : State :=
  match s.line.current with
  | some c =>
    if c.frame.proposalOf g then removeWaiting (TxFrame.proposalOf g) (dropCurrent s)
    else removeWaiting (TxFrame.proposalOf g) s
  | none => removeWaiting (TxFrame.proposalOf g) s

/-- R150, step 2: the queue and the backlog are emptied, the current frame with them. -/
def emptyQueue (s : State) : State :=
  (s.line.waiting ++ (s.line.current.map Current.frame).toList).foldl (fun t f => noteGone f t)
    (s.setLine { s.line with waiting := [], backlog := [], current := none, slot := none })

/-! ### The slot draw (R141, R148) -/

/-- One shift of the register: bit 15 leaves and bit 0 takes the exclusive-or of bits 15, 13, 12 and 10. -/
def drawShift (r : BitVec 16) : BitVec 16 :=
  (r <<< 1) ||| ((BitVec.ofBool (r.getLsbD 15 ^^ r.getLsbD 13 ^^ r.getLsbD 12 ^^ r.getLsbD 10)).setWidth 16)

/-- A draw shifts eight times. -/
def drawNext (r : BitVec 16) : BitVec 16 :=
  drawShift (drawShift (drawShift (drawShift (drawShift (drawShift (drawShift (drawShift r)))))))

/-- The seed: the address in both bytes. -/
def drawSeed (address : Nat) : BitVec 16 := BitVec.ofNat 16 (address * 257)

/-- The window of the access now being made: the current frame's, or 16. -/
def Line.window (l : Line) : Nat :=
  match l.current with
  | some c => c.window
  | none => 16

/-- A slot is drawn from 0 to W − 1 (R141). -/
def drawSlot (s : State) : State :=
  match s.line.draw with
  | some r => s.setLine { s.line with draw := some (drawNext r), slot := some ((drawNext r).toNat % s.line.window) }
  | none => s

/-- The draw that this access made when the line became idle, where no earlier step has made it already (log 13). -/
def drawIfNone (s : State) : State :=
  match s.line.slot with
  | some _ => s
  | none => drawSlot s

/-- R148: an access is being made: the driver is ENABLED, the line is not held, the queue holds a frame and none is being
sent. -/
def State.accesses (s : State) : Bool :=
  decide (s.sup.mode ≠ .loading) && decide (s.line.cut = none) && !s.line.held && decide (s.line.size ≠ 0) &&
    (match s.line.current with
     | some c => !c.sending
     | none => true)

/-- R148, step 2: an access that waits on an idle line has drawn its slot before anything else of the step happens. -/
def drawnWhileIdle (idle : Bool) (s : State) : State := if idle && s.accesses then drawIfNone s else s

/-- R148: a start bit ends the slot wait; the access goes back to step 1 and draws again when the line is next idle. -/
def endSlotWait (s : State) : State := s.setLine { s.line with slot := none }

end Sys2Proof.Machine
end

