-- ==== Sys2Proof/Machine/Claims.lean ====
section
/-! DEFINITION. The claim engine's operations on own claims: the CLAIM's contents, withdrawal, the overrun latch and the release
(R27, R29, R33, R44, R48). -/

namespace Sys2Proof.Machine

/-- R27: the remaining reduced minutes of a group's claim. -/
def State.remainingMinutes (s : State) (gr : Group) (phase : Phase) : Nat :=
  match phase with
  | .proposed => gr.defn.minutes + 60 * gr.defn.rechargeHours
  | .testing =>
    gr.defn.minutes + 60 * gr.defn.rechargeHours -
      (match gr.testStart with
       | some t => minutesBetween t.tick s.now
       | none => 0)
  | .recovering => gr.recharge.getD 0

/-- R27: the CLAIM's contents for a group in a phase. -/
def State.claimBody (s : State) (g : Nat) (phase : Phase) : ClaimBody :=
  let gr := s.group g
  { phase := phase, urgency := gr.claimUrgency, weight := gr.weight, remaining := s.remainingMinutes gr phase,
    home := gr.defn.home, neighbours := gr.defn.neighbours }

/-- The group's CLAIM is queued with the phase its claim record holds (R27). -/
def queueClaim (g : Nat) (s : State) : State :=
  match (s.group g).claim with
  | some c => offer (.claim g (s.claimBody g c.phase)) s
  | none => s

/-- R42: the refresh countdown starts, or starts again, at 60 s. -/
def startRefresh (g : Nat) (s : State) : State :=
  s.modGroup g (fun gr => { gr with claim := gr.claim.map (fun c => { c with refresh := some 60 }) })

/-- R13, R37, R48: the view load plus the own reduced weight. -/
def State.totalLoad (s : State) : Nat := s.viewLoad + s.ownWeight

/-- R48: the overrun latch against the present total. -/
def evalOverrun (s : State) : State :=
  match s.groupsIn GState.past with
  | g :: _ =>
    if s.figures.cap < s.totalLoad then
      if s.overrun then s else raise .loadOver (groupDetail g) { s with overrun := true }
    else { s with overrun := false }
  | [] => { s with overrun := false }

/-- R33 step 5, R16: the group is DUE with its backoff, and without a claim record. -/
def State.yieldGroup (s : State) (g : Nat) : State :=
  s.modGroup g (fun gr =>
    { gr.enter .due with claim := none, backoff := backoffMinutes gr.claimUrgency s.ownAddress })

/-- R33: a PROPOSED group is withdrawn, with the RELEASE that R29 gives or with none. An event that finds the group no
longer PROPOSED has no effect. -/
def withdrawQuiet (g : Nat) (reason : Option Reason) (s : State) : State :=
  if (s.group g).state = .proposed then
    match reason with
    | some r => (offer (.release g r) (removeProposal g s)).yieldGroup g
    | none => (removeProposal g s).yieldGroup g
  else s

/-- R33 with R48: the own reduced weight has changed, so the overrun latch is evaluated. -/
def withdraw (g : Nat) (reason : Option Reason) (s : State) : State :=
  if (s.group g).state = .proposed then evalOverrun (withdrawQuiet g reason s) else s

/-- Every own PROPOSED group is withdrawn (R38, R39, R128, R132), in ascending group number (log 19). -/
def withdrawAll (reason : Option Reason) (s : State) : State :=
  groupNumbers.foldl (fun t g => withdraw g reason t) s

/-- R44: the release of a RECOVERING group whose recharge is complete, and R21's return to DUE or IDLE. -/
def releaseGroup (g : Nat) (s : State) : State :=
  let t := offer (.release g .complete) (removeWaiting (TxFrame.claimOf g) s)
  evalOverrun (t.modGroup g (fun gr =>
    { gr.enter (if t.urgencyNow gr = 0 then .idle else .due) with
      claim := none, backoff := 0, recharge := none, rechargeDue := false, firstFailing := none }))

/-- R40: the seven checks at the expiry of a proposal hold. -/
def State.holdChecks (s : State) (g : Nat) : Bool :=
  let gr := s.group g
  (decide (s.sup.mode = .coordinating) || decide (s.sup.mode = .standalone)) &&
    decide (s.inputs.mains = .on) && decide (s.inputs.outageHold = 0) && decide (s.inputs.inhibit = .inactive) &&
    s.windowFor gr && s.someTestable gr &&
    s.view.all (fun e => !(e.mask.contains g && (e.full.isNone || decide (e.phase ≠ .proposed))))

end Sys2Proof.Machine
end

