-- ==== Sys2Proof/Machine/Records.lean ====
section
/-! DEFINITION. The record memory controller's operations after LOADING: the appender list, the flusher, the cache, the
fill-pending set and the arbiter (R159 to R165). -/

namespace Sys2Proof.Machine

def State.setMem (s : State) (m : RecMem) : State := { s with mem := m }

/-- R164: a line has been accepted for luminaire `n` while its page is being read. -/
def MemTxn.arrived (n : Nat) : MemTxn → MemTxn
  | .fill k arrived => .fill k (arrived || decide (k = n))
  | t => t

/-- R161: a history line is offered to the appender list. -/
def offerLine (l : HistLine) (s : State) : State :=
  if s.mem.appender.length < 256 then
    s.setMem
      { s.mem with
        appender := s.mem.appender ++ [l]
        cache := s.mem.cache.filter (fun c => decide (c.lum ≠ l.lum))
        txn := s.mem.txn.map (MemTxn.arrived l.lum) }
  else raise .recordCrcError (lostDetail l.lum) s

/-- A 30-byte record body completed with its CRC-16; the bytes that no table names are free values (log 4). -/
def sealRecord (body pad : List Byte) : List Byte := withCrc16 (body ++ pad)

/-- R162: the appender's write of the oldest line, into its luminaire's next slot. -/
def State.appendTxn (s : State) : Option MemTxn :=
  match s.mem.appender with
  | l :: _ =>
    some (.append l (historyOffset l.lum (s.lum l.lum).record.next) (sealRecord l.bytes (s.freeBytes 6)))
  | [] => none

/-- R160: the flusher's next record, the lowest dirty group first, then the lowest dirty luminaire. -/
def State.flushTxn (s : State) : Option MemTxn :=
  match groupNumbers.find? (fun g => (s.group g).dirty) with
  | some g => some (.flushGroup g (groupOffset g) (sealRecord (s.group g).recordBytes (s.freeBytes 15)))
  | none =>
    match lumAddresses.find? (fun n => (s.lum n).dirty) with
    | some n => some (.flushLum n (lumOffset n) (sealRecord (s.lum n).record.bytes (s.freeBytes 20)))
    | none => none

/-- R164: the oldest luminaire of the fill-pending set for which no line is held in the appender list. -/
def State.fillTxn (s : State) : Option MemTxn :=
  (s.mem.fillPending.find? (fun n => !s.mem.appender.any (fun l => decide (l.lum = n)))).map (fun n => .fill n false)

/-- The requester after another in the cycle of R165. -/
def Requester.after : Requester → Requester
  | .appender => .flusher
  | .flusher => .fill
  | .fill => .appender

def State.workOf (s : State) : Requester → Option MemTxn
  | .appender => s.appendTxn
  | .flusher => s.flushTxn
  | .fill => s.fillTxn

/-- The free bytes a transaction's record takes up. -/
def MemTxn.freeTaken : MemTxn → Nat
  | .append _ _ _ => 6
  | .flushGroup _ _ _ => 15
  | .flushLum _ _ _ => 20
  | .fill _ _ => 0

/-- R160: the grant takes the member out of its dirty set. -/
def clean (t : MemTxn) (s : State) : State :=
  match t with
  | .flushGroup g _ _ => s.modGroup g (fun gr => { gr with dirty := false })
  | .flushLum n _ _ => s.modLum n (fun l => { l with dirty := false })
  | _ => s

/-- The granted requester's transaction begins. -/
def beginTxn (r : Requester) (t : MemTxn) (s : State) : State :=
  ((clean t s).tookFree t.freeTaken).setMem { s.mem with txn := some t, turn := r.after }

/-- R165: the memory, free, is offered in round-robin order from the turn pointer. -/
def grantMemory (s : State) : State :=
  let r1 := s.mem.turn
  let r2 := r1.after
  let r3 := r2.after
  match s.workOf r1, s.workOf r2, s.workOf r3 with
  | some t, _, _ => beginTxn r1 t s
  | none, some t, _ => beginTxn r2 t s
  | none, none, some t => beginTxn r3 t s
  | none, none, none => s

/-- R162: the cursor of a luminaire's ring after a line is written. -/
def LumRecord.advance (r : LumRecord) : LumRecord := { r with next := (r.next + 1) % 8, count := min 8 (r.count + 1) }

/-- R162: the write of a history line completes. -/
def lineWritten (l : HistLine) (offset : Nat) (bytes : List Byte) (s : State) : State :=
  (s.setMem { s.mem with nvm := s.mem.nvm.write offset bytes, appender := s.mem.appender.tail, txn := none }).modLum l.lum
    (fun r => { r with record := r.record.advance, dirty := true })

/-- R160: the write of a record completes, with no further effect. -/
def recordWritten (offset : Nat) (bytes : List Byte) (s : State) : State :=
  s.setMem { s.mem with nvm := s.mem.nvm.write offset bytes, txn := none }

/-- The eight lines of a page, each with its CRC's verdict (R164). -/
def pageLines (page : List Byte) : List (List Byte × Bool) :=
  (List.range 8).map (fun i => ((page.drop (16 * i)).take 16, crc16Good ((page.drop (16 * i)).take 16)))

/-- R164: the page goes into an invalid entry, or replaces the entry filled earliest. -/
def insertPage (cache : List CacheEntry) (n : Nat) (page : List Byte) : List CacheEntry :=
  (if cache.length < 8 then cache else cache.tail) ++ [{ lum := n, lines := pageLines page }]

/-- R164: a fill completes; the page is inserted, or discarded where a line was accepted during the read. -/
def filled (n : Nat) (lineArrived : Bool) (nvm : Memory) (page : List Byte) (s : State) : State :=
  if lineArrived then s.setMem { s.mem with nvm := nvm, txn := none }
  else
    s.setMem
      { s.mem with
        nvm := nvm
        cache := insertPage s.mem.cache n page
        fillPending := s.mem.fillPending.filter (fun k => decide (k ≠ n))
        txn := none }

/-- The slot that position `k` of a ring reads (R163). -/
def ringSlot (next k : Nat) : Nat := (next + 15 - k) % 8

end Sys2Proof.Machine
end

