-- ==== Sys2Proof/Machine/TestEngine.lean ====
section
/-! DEFINITION. The test engine: entry into TESTING, poll rounds, the outcomes of its transactions, conclusion, early end and
mains abort, and what the test writes (Chapter 4). -/

namespace Sys2Proof.Machine

/-! ### End of a test -/

/-- R21: the result applied to P, f and the last result. -/
def Group.applyResult (gr : Group) (r : GResult) (start : Nat) : Group :=
  match r with
  | .pass => { gr with lastTested := some start, fails := 0, lastResult := some r }
  | .part => { gr with lastTested := some start, fails := 0, lastResult := some r }
  | .fail => { gr with lastTested := some start, fails := 0, lastResult := some r }
  | _ => { gr with fails := min 7 (gr.fails + 1), lastResult := some r }

/-- The calendar minute at the group test start. -/
def Group.startMinute (gr : Group) : Nat :=
  match gr.testStart with
  | some t => t.minute
  | none => 0

/-- Whole minutes since the group test start (R82). -/
def State.elapsed (s : State) (gr : Group) : Nat :=
  match gr.testStart with
  | some t => minutesBetween t.tick s.now
  | none => 0

/-- R89: the result a member's test state is recorded as. -/
def TestState.result : TestState → Option LResult
  | .passed => some .passed
  | .failedEarly => some .failedEarly
  | .noReply => some .noReply
  | .aborted => some .aborted
  | _ => none

/-- R89: a member's voltage and fault flags at its last good reply, or none set. -/
def Lum.endVolts (l : Lum) : Byte := (l.lastGood.map GoodReply.volts).getD 0#8
def Lum.endFaults (l : Lum) : Byte := (l.lastGood.map GoodReply.faults).getD 0#8

/-- R89: the working luminaire record of a member that ended its test with a result. -/
def Lum.write (l : Lum) (minute : Nat) (r : LResult) : Lum :=
  { l with
    record :=
      { l.record with
        time := some minute, result := some r, achieved := l.achieved, volts := l.endVolts, faults := l.endFaults }
    dirty := true }

/-- R89, for one member: EXCLUDED members contribute nothing. -/
def writeMember (g minute : Nat) (s : State) (n : Nat) : State :=
  match (s.lum n).test.result with
  | some r =>
    offerLine
      { lum := n, time := minute, group := g, result := r, achieved := (s.lum n).achieved, volts := (s.lum n).endVolts }
      (s.modLum n (fun l => l.write minute r))
  | none => s

/-- Pending START and PROBE requests are removed (R80, R82). -/
def clearRequest (s : State) (n : Nat) : State := s.modLum n (fun l => { l with request := none })

/-- R90, R21, R3: the group's entry and working record at the end of its test. -/
def Group.finish (gr : Group) (r : GResult) (recharge : Nat) : Group :=
  { (gr.applyResult r gr.startMinute).enter .recovering with
    recharge := some recharge, rechargeDue := false, recTestStart := some gr.startMinute,
    recFirstFailing := gr.firstFailing, testStart := none, round := none }

/-- R43: the claim record goes to RECOVERING, its CLAIM is queued and the refresh restarts. -/
def claimRecovering (g : Nat) (s : State) : State :=
  startRefresh g (queueClaim g (s.modGroup g (fun gr =>
    { gr with claim := gr.claim.map (fun c => { c with phase := .recovering, hold := none }) })))

/-- R81, R82: the end of a test, in the order given there. -/
def finishTest (g : Nat) (r : GResult) (recharge : Nat) (e : Event) (s : State) : State :=
  let gr := s.group g
  let t := gr.defn.members.foldl (writeMember g gr.startMinute) (gr.defn.members.foldl clearRequest s)
  raise e (groupDetail g) (claimRecovering g (t.modGroup g (fun gr => gr.finish r recharge)))

/-! ### Conclusion (R79, R80) -/

/-- R80: the result, from the members that are not EXCLUDED. -/
def groupResult (states : List TestState) : GResult :=
  let tested := states.filter (fun st => decide (st ≠ .excluded))
  if tested.any (fun st => decide (st = .passed)) then
    if tested.all (fun st => decide (st = .passed)) then .pass else .part
  else if tested.any (fun st => decide (st = .failedEarly)) then .fail
  else .noResponse

def GResult.event : GResult → Event
  | .pass => .groupPassed
  | _ => .groupFaulty

/-- R80: the test concludes when no member is PENDING_START or DISCHARGING. -/
def checkConclusion (g : Nat) (s : State) : State :=
  let gr := s.group g
  let states := gr.defn.members.map (fun n => (s.lum n).test)
  if gr.state = .testing ∧ ¬ states.any TestState.live then
    finishTest g (groupResult states) (60 * gr.defn.rechargeHours) (groupResult states).event s
  else s

/-- R79: the first member to reach FAILED_EARLY or NO_REPLY. -/
def captureFirst (g n : Nat) (s : State) : State :=
  s.modGroup g (fun gr => { gr with firstFailing := some (gr.firstFailing.getD n) })

/-- A member reaches FAILED_EARLY or NO_REPLY: its achieved minutes, its END owed, the first-failing capture. -/
def failMember (g n : Nat) (state : TestState) (achieved : Nat) (s : State) : State :=
  captureFirst g n (s.modLum n (fun l =>
    { l with test := state, achieved := achieved, endOwed := true, request := none }))

/-! ### Poll rounds (R70, R71) -/

/-- R71, for one member. -/
def roundMember (g : Nat) (s : State) (n : Nat) : State :=
  let l := s.lum n
  match l.test with
  | .pendingStart =>
    if l.startCount < 3 then
      if s.branchDown n ∨ l.request.isSome ∨ s.testInFlight n .start then
        s.modLum n (fun l => { l with startCount := l.startCount + 1 })
      else s.modLum n (fun l => { l with startCount := l.startCount + 1, request := some .start })
    else if s.testInFlight n .start then s
    else failMember g n .noReply 0 s
  | .discharging =>
    if l.request.isSome ∨ s.testInFlight n .probe then s else s.modLum n (fun l => { l with request := some .probe })
  | _ => s

/-- R71: a poll round of a TESTING group, with the check for conclusion after the last member. -/
def pollMembers (g : Nat) (s : State) : State :=
  checkConclusion g ((s.group g).defn.members.foldl (roundMember g) s)

/-- R70, step 3, for one member. -/
def enterMember (s : State) (n : Nat) : State :=
  if s.testable n then
    s.modLum n (fun l =>
      { l with test := .pendingStart, startCount := 0, ownStart := none, lastGood := none, achieved := 0 })
  else s.modLum n (fun l => { l with test := .excluded })

/-- R70: the test starts. The working record's test start time is written too (R90). -/
def startTest (g : Nat) (s : State) : State :=
  let t := s.modGroup g (fun gr =>
    { gr with
      testStart := some { tick := s.now, minute := s.calendar.minutes }, recTestStart := some s.calendar.minutes,
      firstFailing := none, round := some 1 })
  pollMembers g ((t.group g).defn.members.foldl enterMember t)

/-- R41: entry into TESTING. The CLAIM and the refresh are made only if the test has not concluded at once. -/
def enterTesting (g : Nat) (s : State) : State :=
  let t := startTest g (s.modGroup g (fun gr =>
    { gr.enter .testing with
      forced := false, claim := gr.claim.map (fun c => { c with phase := .testing, hold := none }) }))
  if (t.group g).state = .testing then startRefresh g (queueClaim g t) else t

/-! ### Early end and mains abort (R82, R84) -/

/-- R82, step 2, for one member; no END is owed at a mains abort (R84). -/
def abortMember (owed : Bool) (s : State) (n : Nat) : State :=
  match (s.lum n).test with
  | .pendingStart => s.modLum n (fun l => { l with test := .aborted, achieved := 0, endOwed := l.endOwed || owed })
  | .discharging =>
    s.modLum n (fun l =>
      { l with
        test := .aborted, achieved := minutesBetween (l.ownStart.getD s.now) s.now, endOwed := l.endOwed || owed })
  | _ => s

/-- R82 and R84: a TESTING group's test ends early. A group no longer TESTING is left as it is (R85). -/
def endTest (g : Nat) (r : GResult) (owed : Bool) (s : State) : State :=
  let gr := s.group g
  if gr.state = .testing then
    finishTest g r (earlyRecharge gr.defn.rechargeHours gr.defn.minutes (s.elapsed gr)) .testAborted
      (gr.defn.members.foldl (abortMember owed) s)
  else s

/-- Every TESTING group ends with a result, in ascending group number. -/
def endAllTests (r : GResult) (owed : Bool) (s : State) : State :=
  groupNumbers.foldl (fun t g => endTest g r owed t) s

/-! ### Outcomes of the test engine's transactions (R73 to R78) -/

/-- The group whose test luminaire `n` is under, if any. -/
def State.testGroup (s : State) (n : Nat) : Option Nat :=
  match s.groupOf n with
  | some g => if (s.group g).state = .testing then some g else none
  | none => none

/-- R73, R74: a good reply recorded as the last good reply. -/
def keepGood (n : Nat) (reply : LoopReply) (s : State) : State :=
  s.modLum n (fun l => { l with lastGood := some { tick := s.now, volts := reply.volts, faults := reply.faults } })

/-- R73: a member still PENDING_START at count 3 becomes NO_REPLY. -/
def startMissed (g n : Nat) (s : State) : State :=
  if 3 ≤ (s.lum n).startCount then failMember g n .noReply 0 s else s

/-- R73: a START transaction completes for a PENDING_START member of a TESTING group. -/
def startOutcome (g n : Nat) (reply : Option LoopReply) (s : State) : State :=
  checkConclusion g
    (match reply with
     | some r =>
       if r.inTest then
         (keepGood n r s).modLum n (fun l => { l with test := .discharging, ownStart := some s.now, request := none })
       else startMissed g n (keepGood n r s)
     | none => startMissed g n s)

/-- Whole minutes from a member's own start tick to a stamp. -/
def Lum.ranUntil (l : Lum) (stamp : Nat) : Nat := minutesBetween (l.ownStart.getD stamp) stamp

/-- R74, R75: a PROBE transaction completes for a DISCHARGING member of a TESTING group. -/
def probeOutcome (g n : Nat) (reply : Option LoopReply) (s : State) : State :=
  match reply with
  | some r =>
    if r.lampLit && r.onBattery then checkConclusion g (keepGood n r s)
    else checkConclusion g (failMember g n .failedEarly ((s.lum n).ranUntil s.now) (keepGood n r s))
  | none =>
    if 3 ≤ (s.lum n).misses then
      checkConclusion g
        (failMember g n .noReply ((s.lum n).ranUntil ((((s.lum n).lastGood).map GoodReply.tick).getD 0)) s)
    else s

/-- R99, R73 to R78: the outcome of a transaction whose source was TEST. -/
def testOutcome (n : Nat) (c : LoopCommand) (reply : Option LoopReply) (s : State) : State :=
  match c, s.testGroup n, (s.lum n).test with
  | .endTest, _, _ => s.modLum n (fun l => { l with endOwed := false })
  | .start, some g, .pendingStart => startOutcome g n reply s
  | .probe, some g, .discharging => probeOutcome g n reply s
  | _, _, _ => s

/-- R76: a DISCHARGING member reaches its end instant. -/
def passMember (g n : Nat) (s : State) : State :=
  checkConclusion g (s.modLum n (fun l =>
    { l with
      test := .passed, achieved := (s.group g).defn.minutes, endOwed := true, request := none }))

/-- R91, for one restored group: a stored TESTING group's members are ABORTED, and owed END where they lie on a branch. -/
def restoreTest (s : State) (r : Nat × Restored) : State :=
  match r.2 with
  | .storedTesting =>
    raise .testAborted (groupDetail r.1)
      ((s.group r.1).defn.members.foldl
        (fun t n => t.modLum n (fun l => { l with test := .aborted, endOwed := l.branch.isSome })) s)
  | .storedRecovering => s
  | .damaged => s

end Sys2Proof.Machine
end

