-- ==== Sys2Proof/Machine/View.lean ====
section
/-! DEFINITION. The peer view and the claim engine's judgement of what it reports: entries inserted, updated and removed,
BEACON reconciliation, conflict with own groups, the load contest (R35 to R37, R46, R47, R49 to R63). -/

namespace Sys2Proof.Machine

/-! ### What is judged (R35) -/

/-- A claim or entry as the claim engine judges it, with the previous phase supplied. A placeholder has no urgency. -/
structure Judged where
  station : Nat
  group : Nat
  phase : Phase
  urgency : Option Nat
  mask : List Nat
  previous : Option Phase
  deriving DecidableEq, Repr

def Entry.judged (e : Entry) (previous : Option Phase) : Judged :=
  { station := e.station, group := e.group, phase := e.phase, urgency := e.full.map FullClaim.urgency, mask := e.mask,
    previous := previous }

/-- R25: whether what is judged has precedence over own group `g`; a placeholder always has. -/
def State.outranks (s : State) (j : Judged) (g : Nat) : Bool :=
  match j.urgency with
  | some u => precedes u j.station j.group (s.group g).claimUrgency s.ownAddress g
  | none => true

/-- R36: what is judged against an own PROPOSED group. -/
def judgeProposed (j : Judged) (g : Nat) (s : State) : State :=
  if j.urgency = none ∨ j.phase ≠ .proposed ∨ s.outranks j g = true then withdrawQuiet g (some .withdrawn) s else s

/-- R46: whether a full claim ends own TESTING group `g`. -/
def State.endsTest (s : State) (j : Judged) (g : Nat) : Bool :=
  match j.phase with
  | .proposed => false
  | .testing => s.outranks j g
  | .recovering => !(decide (j.previous = some .testing) && !s.outranks j g)

/-- R46: what is judged against an own TESTING group. The test ends before the event is raised (log 18). -/
def judgeTesting (j : Judged) (g : Nat) (s : State) : State :=
  if j.urgency = none ∨ j.phase = .proposed then s
  else
    raise .conflictLate (groupDetail g) (if s.endsTest j g then endTest g .abortedConflict true s else s)

/-- R47: what is judged against an own RECOVERING group. -/
def judgeRecovering (j : Judged) (g : Nat) (s : State) : State :=
  if j.urgency = none ∨ j.phase = .proposed then s else raise .conflictLate (groupDetail g) s

/-- R35, step 1, for one own group. -/
def judgeGroup (j : Judged) (s : State) (g : Nat) : State :=
  match (s.group g).state with
  | .proposed => judgeProposed j g s
  | .testing => judgeTesting j g s
  | .recovering => judgeRecovering j g s
  | _ => s

/-- Own group `g` comes before `h` in the order of R37: lower claim urgency, then higher number. -/
def State.weakerThan (s : State) (g h : Nat) : Bool :=
  decide ((s.group g).claimUrgency < (s.group h).claimUrgency) ||
    (decide ((s.group g).claimUrgency = (s.group h).claimUrgency) && decide (h < g))

def insertWeakest (s : State) (g : Nat) : List Nat → List Nat
  | [] => [g]
  | h :: hs => if s.weakerThan g h then g :: h :: hs else h :: insertWeakest s g hs

/-- The own PROPOSED groups, lowest precedence first (R37). -/
def State.contestOrder (s : State) : List Nat :=
  (s.groupsIn (fun st => decide (st = .proposed))).foldr (insertWeakest s) []

/-- R37: some entry is not PROPOSED, or has precedence over `g`. -/
def State.contested (s : State) (g : Nat) : Bool :=
  s.view.any (fun e => decide (e.phase ≠ .proposed) || s.outranks (e.judged none) g)

/-- R37, for one PROPOSED group. -/
def contestGroup (s : State) (g : Nat) : State :=
  if s.figures.cap < s.totalLoad ∧ s.contested g = true then withdrawQuiet g (some .withdrawn) s else s

/-- R37: the load contest. -/
def loadContest (s : State) : State := s.contestOrder.foldl contestGroup s

/-- R35, steps 2 and 3. -/
def loadSteps (s : State) : State := evalOverrun (loadContest s)

/-- R35: the three steps for one reported change. -/
def judge (j : Judged) (s : State) : State := loadSteps (j.mask.foldl (judgeGroup j) s)

/-! ### Entries (R49 to R54) -/

def viewLimit : Nat := 48

def Entry.hasKey (e : Entry) (station group : Nat) : Bool := decide (e.station = station ∧ e.group = group)

def State.setView (s : State) (v : List Entry) : State := { s with view := v }

/-- The full entry that a CLAIM makes (R51, R52). -/
def State.entryOf (s : State) (station : Nat) (c : ClaimFrame) : Entry :=
  { station := station, group := c.group, phase := c.phase, weight := c.weight, age := 0,
    mask := s.conflictMask c.full.home c.full.neighbours, full := some c.full, rechargeEnded := false }

/-- R52: the phase supplied for an updated entry, none for a former placeholder. -/
def Entry.previousPhase (e : Entry) : Option Phase := if e.full.isSome then some e.phase else none

/-- R61: the overflow hold starts, or starts again, at 300 s. -/
def startOverflow (s : State) : State := { s with overflow := some 300 }

/-- R53, R59: a claim that cannot be stored because the view is full. -/
def viewFull (group : Nat) (s : State) : State := startOverflow (raise .peerViewFull (groupDetail group) s)

/-- R51 to R53: the view takes a CLAIM and the claim engine judges it. -/
def takeClaim (station : Nat) (c : ClaimFrame) (s : State) : State :=
  let e := s.entryOf station c
  match s.view.find? (fun x => x.hasKey station c.group) with
  | some old =>
    judge (e.judged old.previousPhase)
      (s.setView (s.view.map (fun x => if x.hasKey station c.group then e else x)))
  | none =>
    if s.view.length < viewLimit then judge (e.judged none) (s.setView (s.view ++ [e]))
    else judge (e.judged none) (viewFull c.group s)

/-- R54: the entry of a key is removed, and the load steps are made; a key not held changes nothing. -/
def removeEntry (station group : Nat) (s : State) : State :=
  if s.view.any (fun x => x.hasKey station group) then
    loadSteps (s.setView (s.view.filter (fun x => !x.hasKey station group)))
  else s

/-! ### BEACON reconciliation (R57 to R60, R63) -/

/-- R57, step 1: the entries of X that the list does not name. -/
def unlisted (station : Nat) (pairs : List (Nat × Phase)) (e : Entry) : Bool :=
  decide (e.station = station) && !pairs.any (fun p => decide (p.1 = e.group))

/-- R57, step 2, for one pair. -/
def confirmPair (station : Nat) (v : List Entry) (p : Nat × Phase) : List Entry :=
  v.map (fun e =>
    if e.hasKey station p.1 then
      { e with phase := p.2, age := 0, rechargeEnded := e.rechargeEnded && decide (p.2 = .recovering) }
    else e)

/-- R59: the placeholder that a pair makes. -/
def State.placeholder (s : State) (station : Nat) (p : Nat × Phase) : Entry :=
  { station := station, group := p.1, phase := p.2, weight := 0, age := 0, mask := s.usedGroups, full := none,
    rechargeEnded := false }

/-- R57 step 3, R59, for one pair whose key no entry has. -/
def addPlaceholder (station : Nat) (s : State) (p : Nat × Phase) : State :=
  if s.view.any (fun e => e.hasKey station p.1) then s
  else if s.view.length < viewLimit then s.setView (s.view ++ [s.placeholder station p])
  else viewFull p.1 s

/-- R58: the placeholders of X take their shares; the first of them in list order takes the odd part. -/
def sharePlaceholders (station share extra : Nat) : List Entry → List Entry
  | [] => []
  | e :: es =>
    if e.station = station ∧ e.full = none then
      { e with weight := min 128 (share + extra) } :: sharePlaceholders station share 0 es
    else e :: sharePlaceholders station share extra es

/-- R58: the placeholder weights of X after a BEACON that carries a weight. -/
def reweigh (station weight : Nat) (v : List Entry) : List Entry :=
  let fulls := v.filter (fun e => decide (e.station = station) && e.full.isSome)
  let count := (v.filter (fun e => decide (e.station = station) && e.full.isNone)).length
  let remainder := weight - (fulls.map Entry.weight).sum
  sharePlaceholders station (remainder / count) (remainder % count) v

/-- The reports that steps 2 and 3 of a reconciliation make, in the order of R63: each listed entry that was held before,
with its phase before, and then each placeholder newly stored. -/
def reconcileReports (station : Nat) (pairs : List (Nat × Phase)) (before after : List Entry) : List Judged :=
  (pairs.filterMap (fun p =>
    match before.find? (fun e => e.hasKey station p.1), after.find? (fun e => e.hasKey station p.1) with
    | some old, some e => some (e.judged (some old.phase))
    | _, _ => none)) ++
  (pairs.filterMap (fun p =>
    match before.find? (fun e => e.hasKey station p.1), after.find? (fun e => e.hasKey station p.1) with
    | none, some e => some (e.judged none)
    | _, _ => none))

/-- R57 to R60: the view takes a BEACON whole, and its changes are then reported in the order of R63. -/
def takeBeacon (station : Nat) (b : BeaconFrame) (s : State) : State :=
  let pairs := firstPairs b.claims
  let removed := s.view.filter (unlisted station pairs)
  let kept := s.view.filter (fun e => !unlisted station pairs e)
  let t := pairs.foldl (addPlaceholder station) (s.setView (pairs.foldl (confirmPair station) kept))
  let u := t.setView (reweigh station b.weight t.view)
  let afterRemovals := removed.foldl (fun w _ => loadSteps w) u
  let afterReports := (reconcileReports station pairs s.view u.view).foldl (fun w j => judge j w) afterRemovals
  if t.view = u.view then afterReports else loadSteps afterReports

/-! ### Ageing and countdown (R55, R56) -/

/-- R55: one tick second at an entry. One that reaches 300 s stands at that age until ENTRY_AGE_OUT is taken (log 42). -/
def Entry.older (e : Entry) : Entry := { e with age := min 300 (e.age + 1) }

/-- R56: one minute tick at an entry; a RECOVERING one whose count is then 0 is due to leave. -/
def Entry.minute (e : Entry) : Entry :=
  match e.full with
  | some f =>
    { e with
      full := some { f with remaining := f.remaining - 1 }
      rechargeEnded := decide (e.phase = .recovering ∧ f.remaining ≤ 1) }
  | none => e

/-- R56: every entry due to leave is removed, each removal reported as it is made, in list order. -/
def removeEnded (s : State) : State :=
  (s.view.filter Entry.rechargeEnded).foldl (fun t e => removeEntry e.station e.group t) s

end Sys2Proof.Machine
end

