-- ==== Sys2Proof/Machine/Supervisor.lean ====
section
/-! DEFINITION. The station supervisor's transitions (Chapter 7), the receive checks (R143, R144) and the delivery of a station
frame (R131, R138). -/

namespace Sys2Proof.Machine

def State.setSup (s : State) (u : Supervisor) : State := { s with sup := u }

/-- R128: entry into LISTENING. -/
def enterListening (s : State) : State :=
  withdrawAll (some .withdrawn)
    (s.setSup
      { s.sup with
        mode := .listening, reason := .noReason, listen := some ((2 * s.figures.beacon + 1) * 60),
        silence := some (s.figures.silence * 60), fallback := none, clear := none })

/-- R104: each idle branch starts a sweep at cursor 0, and one in progress goes on. -/
def Branch.startSweep (b : Branch) : Branch := { b with sweep := some (b.sweep.getD 0) }

/-- R104: a sweep begins and the countdown is at the sweep period. -/
def startSweep (s : State) : State :=
  { s with
    loop :=
      { s.loop with
        a := s.loop.a.startSweep, b := s.loop.b.startSweep, sweepCountdown := some s.figures.sweepPeriod } }

/-- R45: every RECOVERING group is announced and its refresh starts, in ascending group number. -/
def announceRestored (s : State) : State :=
  (s.groupsIn (fun st => decide (st = .recovering))).foldl (fun t g => startRefresh g (queueClaim g t)) s

/-- R128, R31, R45, R104: the first entry into LISTENING after LOADING. -/
def firstListening (s : State) : State :=
  startSweep (announceRestored (offerBeacon { enterListening s with beacon := some s.figures.beacon }))

/-- R130: entry into COORDINATING. -/
def enterCoordinating (s : State) : State :=
  s.setSup { s.sup with mode := .coordinating, listen := none, clear := some 86400 }

/-- R134: one more isolation, stopping at 15. -/
def Supervisor.countIsolation (u : Supervisor) : Supervisor := { u with isolations := min 15 (u.isolations + 1) }

/-- The fallback delay in seconds (R135). -/
def State.fallbackSeconds (s : State) : Nat := s.figures.fallbackDays * 86400

/-- R135: the fallback test. -/
def State.fallsBack (s : State) : Bool :=
  s.figures.fallback &&
    (decide (s.figures.isolationLimit ≤ s.sup.isolations) || decide (s.sup.fallback = some s.fallbackSeconds))

/-- R136: entry into STANDALONE. -/
def enterStandalone (s : State) : State :=
  raise .standaloneEntered noDetail
    (s.setSup { s.sup with mode := .standalone, reason := .noReason, fallback := none })

/-- R132: entry into ISOLATED with reason SILENCE, and the fallback test. -/
def enterIsolatedSilence (s : State) : State :=
  let t := withdrawAll (some .withdrawn) (raise .isolated noDetail (s.setSup
    ({ s.sup with mode := .isolated, reason := .silence, listen := none, clear := none, fallback := some 0 }).countIsolation))
  if t.fallsBack then enterStandalone t else t

/-- R133: what a driver cut does to the supervisor. -/
def enterIsolatedDriver (s : State) : State :=
  if s.sup.mode.configured then
    raise .isolated noDetail (s.setSup
      ({ s.sup with mode := .isolated, reason := .driver, listen := none, clear := none, fallback := none }).countIsolation)
  else s

/-- ISOLATED with reason SILENCE. -/
def State.silent (s : State) : Bool := decide (s.sup.mode = .isolated) && decide (s.sup.reason = .silence)

/-- R131, R138: a valid frame from a station address reaches the supervisor. -/
def stationFrame (s : State) : State :=
  if s.sup.mode.configured then
    let t := s.setSup { s.sup with silence := some (s.figures.silence * 60) }
    if s.silent || decide (s.sup.mode = .standalone) then enterListening t else t
  else s

/-! ### Receiving (R142 to R144) -/

/-- R145: the receiver frames while the line-held flag is clear. -/
def State.receives (s : State) : Bool := s.powered && !s.line.held

/-- R143, steps 2 and 3: the source is valid, and the destination is broadcast or the address in use. -/
def State.addressed (s : State) (src dst : Byte) : Bool :=
  decide (1 ≤ src.toNat) && decide (src.toNat ≤ 247) &&
    (decide (dst.toNat = 0) || decide (s.sup.address = some dst.toNat))

/-- R174: a frame that the responder takes is addressed to this station and comes from a console. -/
def State.takes (s : State) (src dst : Byte) : Bool :=
  decide (s.sup.address = some dst.toNat) && consoleAddress src.toNat

/-- R144: the frame carries this station's own address as its source, and the address in use is a station address. -/
def State.clashes (s : State) (src : Byte) : Bool :=
  stationAddress src.toNat && decide (s.sup.address = some src.toNat)

def countClash (s : State) : State := s.setLine { s.line with clashes := min 255 (s.line.clashes + 1) }

def countCrcError (s : State) : State := s.setLine { s.line with crcErrors := min 255 (s.line.crcErrors + 1) }

/-- The receiver is idle after a frame (log 12). -/
def receiverIdle (s : State) : State := s.setLine { s.line with receiver := .idle }

/-- A frame of another kind than CLAIM, RELEASE and BEACON reaches its end with a good check: the supervisor takes it if
its source is a station, and then `f` does what its kind asks (R143). In LOADING it reaches no block (R126). -/
def deliver (src dst : Byte) (f : State → State) (s : State) : State :=
  if s.receives then
    if s.addressed src dst && decide (s.sup.mode ≠ .loading) then
      f (if stationAddress src.toNat then stationFrame (receiverIdle s) else receiverIdle s)
    else receiverIdle s
  else s

/-- A CLAIM, RELEASE or BEACON reaches its end with a good check: the address-clash test comes last (R143, R144). Its
payload reaches the peer view, the claim engine and the calendar from a station address, in the modes of R50. -/
def deliverProtocol (src dst : Byte) (f : State → State) (s : State) : State :=
  if s.receives ∧ s.addressed src dst = true ∧ s.clashes src = true then countClash (receiverIdle s)
  else deliver src dst (fun t => if stationAddress src.toNat && t.sup.mode.configured then f t else t) s

end Sys2Proof.Machine
end

