-- ==== Sys2Proof/Machine/ClaimSteps.lean ====
section
/-! DEFINITION. The meanings of HOLD_EXPIRY, REFRESH_EXPIRY, RECHARGE_COMPLETE, BEACON_COUNTDOWN_EXPIRY, POLL_ROUND and
END_INSTANT: what the own groups' claims and tests do on the tick. -/

namespace Sys2Proof.Machine

/-- R40: the hold of PROPOSED group `g` has run its 30 s. -/
def State.holdExpired (s : State) (g : Nat) : Bool :=
  match (s.group g).state, (s.group g).claim with
  | .proposed, some c => decide (c.hold = some (.running 30))
  | _, _ => false

/-- R40: the hold expires, and the group enters TESTING or is withdrawn. -/
def execHoldExpiry (g ms : Nat) (s : State) : Result :=
  live s (fun s =>
    if s.holdExpired g then
      if s.holdChecks g then enterTesting g (s.atMs ms) else withdraw g (some .aborted) (s.atMs ms)
    else s)

/-- R42: the refresh countdown of a TESTING or RECOVERING group has reached 0. -/
def State.refreshExpired (s : State) (g : Nat) : Bool :=
  match (s.group g).claim with
  | some c => (s.group g).state.past && expired c.refresh
  | none => false

def execRefreshExpiry (g ms : Nat) (s : State) : Result :=
  live s (fun s => if s.refreshExpired g then startRefresh g (queueClaim g (s.atMs ms)) else s)

/-- R87, R44: a recharge countdown has reached 0; a recharge never ends while mains is not validated ON. -/
def execRechargeComplete (g : Nat) (s : State) (idle : Bool := false) : Result :=
  live s (fun s =>
    if (s.group g).state = .recovering ∧ (s.group g).rechargeDue = true ∧ s.inputs.mains = .on then
      releaseGroup g (drawnWhileIdle idle s)
    else s)

/-- R31: the beacon countdown has reached 0. -/
def execBeaconCountdownExpiry (s : State) : Result :=
  live s (fun s =>
    if s.sup.mode.configured && expired s.beacon then offerBeacon { s with beacon := some s.figures.beacon } else s)

/-- R71: the next poll round of a TESTING group falls 60 s after the last, counted from the group test start. That the 60 s
are counted to the millisecond from the start stamp, and not on tick seconds, is the model's reading (DEDUCED, log 39). -/
def State.roundDue (s : State) (g : Nat) : Bool :=
  match (s.group g).state, (s.group g).testStart, (s.group g).round with
  | .testing, some t, some r => decide (t.tick + 60000 * r ≤ s.now)
  | _, _, _ => false

/-- R71: a poll round. The round number is that of the round last made: 1 from the entry, and one higher from the moment the
next round is made (DEDUCED, log 43). -/
def execPollRound (g ms : Nat) (s : State) : Result :=
  live s (fun s =>
    let t := s.atMs ms
    if t.roundDue g then pollMembers g (t.modGroup g (fun gr => { gr with round := gr.round.map (fun r => r + 1) })) else s)

/-- R76: a DISCHARGING member of a TESTING group has run its T minutes, counted in milliseconds from its start stamp
(DEDUCED, log 39). -/
def State.endReached (s : State) (g n : Nat) : Bool :=
  match (s.lum n).test, (s.lum n).ownStart with
  | .discharging, some t => decide (t + 60000 * (s.group g).defn.minutes ≤ s.now)
  | _, _ => false

/-- R76: the end instant of member `n`. -/
def execEndInstant (n ms : Nat) (s : State) : Result :=
  live s (fun s =>
    let t := s.atMs ms
    match t.testGroup n with
    | some g => if t.endReached g n then passMember g n t else s
    | none => s)

end Sys2Proof.Machine
end

