-- ==== Sys2Proof/Machine/Replies.lean ====
section
/-! DEFINITION. The data of each QUERY reply, laid out as section 11.2 gives it (R23, R65, R66, R92, R110, R124, R139, R152, R166,
R168, R175). Every value is the one held at the moment the reply is built. -/

namespace Sys2Proof.Machine

/-! ### STATION STATUS -/

/-- R124: the hour of the week of the calendar. -/
def State.hourOfWeek (s : State) : Nat := s.calendar.minutes / 60 % 168

def statusPage0 (s : State) : List Byte :=
  optBE 1 s.sup.address ++ [s.sup.mode.code, s.sup.reason.code] ++ bytesBE 4 s.calendar.minutes ++
    [byte s.calendar.seconds, flag s.calendar.valid, byte s.hourOfWeek] ++ bytesBE 4 s.clock.seconds

def statusPage1 (s : State) : List Byte :=
  optBE 2 s.sup.listen ++ optBE 2 s.sup.silence ++ optBE 4 s.sup.fallback ++ optBE 4 s.sup.clear ++
    [byte s.sup.isolations, byte s.figures.isolationLimit, flag s.figures.fallback, byte s.figures.fallbackDays]

/-- R124: whole minutes since the validated OFF while OFF, 0 otherwise. -/
def State.outageMinutes (s : State) : Nat := if s.inputs.mains = .off then s.inputs.outageTimer / 60 else 0

def statusPage2 (s : State) : List Byte :=
  [s.inputs.mains.code] ++ bytesBE 2 s.outageMinutes ++ bytesBE 2 s.inputs.lastOutage ++
    bytesBE 2 s.inputs.outageHold ++ [s.inputs.inhibit.code] ++ bytesBE 2 s.inputs.stuck ++ [s.service.key.code]

def statusPage3 (s : State) : List Byte :=
  [byte s.ownSet.length] ++ bytesBE 2 s.ownWeight ++
    [flag s.overrun, byte s.view.length, byte (s.view.filter (fun e => e.full.isNone)).length] ++
    bytesBE 2 s.viewLoad ++ [flag s.overflow.isSome] ++ bytesBE 2 (s.overflow.getD 0)

def Branch.statusBytes (b : Branch) : List Byte :=
  [flag b.down, LoopSource.code (b.txn.map LoopTxn.source), flag b.sweep.isSome] ++ optBE 1 b.sweep ++
    [byte (b.window.filter (fun r => !r.good)).length]

def Slot.code : Option Slot → Byte
  | none => 0x00#8
  | some p => if p.inFlight then 0x02#8 else 0x01#8

def statusPage4 (s : State) : List Byte :=
  s.loop.a.statusBytes ++ s.loop.b.statusBytes ++ optBE 1 s.loop.sweepCountdown ++
    [Slot.code s.loop.slot] ++ optBE 1 (s.loop.slot.map Slot.lum)

def Line.count (l : Line) (p : TxFrame → Bool) : Nat :=
  (l.waiting.filter p).length + ((l.current.map Current.frame).toList.filter p).length

def statusPage5 (s : State) : List Byte :=
  let current : List Byte :=
    match s.line.current with
    | some c => [c.frame.kind, byte c.attempt, byte c.window]
    | none => [0x00#8, 0x00#8, 0x00#8]
  [s.line.rate.code, flag s.line.cut.isSome, byte (s.line.cut.getD 0), flag s.line.held,
    byte (s.line.count TxFrame.isProtocol), byte (s.line.count TxFrame.isBeacon), byte (s.line.count TxFrame.isService),
    byte s.line.backlog.length] ++ current

/-- The requester that holds the memory. -/
def MemTxn.holder : MemTxn → Requester
  | .append _ _ _ => .appender
  | .flushGroup _ _ _ => .flusher
  | .flushLum _ _ _ => .flusher
  | .fill _ _ => .fill

def statusPage6 (s : State) : List Byte :=
  bytesBE 2 s.mem.appender.length ++
    [byte (s.groups.filter Group.dirty).length, byte (s.lums.filter Lum.dirty).length, byte s.mem.cache.length] ++
    (List.range 4).flatMap (fun i => optBE 1 s.mem.fillPending[i]?) ++
    [Requester.code (s.mem.txn.map MemTxn.holder)]

def stationStatusData (index page : Nat) (s : State) : Option (List Byte) :=
  if index = 0 then
    match page with
    | 0 => some (statusPage0 s)
    | 1 => some (statusPage1 s)
    | 2 => some (statusPage2 s)
    | 3 => some (statusPage3 s)
    | 4 => some (statusPage4 s)
    | 5 => some (statusPage5 s)
    | 6 => some (statusPage6 s)
    | _ => none
  else none

/-! ### GROUP -/

/-- Six zone places of two bytes, 0000h for each unused one. -/
def sixZones (zones : List Nat) : List Byte := (List.range 6).flatMap (fun i => bytesBE 2 (zones.getD i 0))

def groupPage0 (gr : Group) : List Byte :=
  bytesBE 16 (setNat gr.defn.members) ++ [byte gr.weight] ++ bytesBE 2 gr.defn.home ++ sixZones gr.defn.neighbours ++
    [byte gr.defn.minutes, byte gr.defn.rechargeHours] ++ bytesBE 2 gr.defn.interval ++ [byte gr.defn.early]

/-- R65: the blocked-until estimate, as the kind and the minutes of the reply. -/
def State.blockedUntil (s : State) (g : Nat) : Byte × Nat :=
  if (s.group g).note = .conflictPeer then
    let blocking := s.view.filter (fun e => e.mask.contains g)
    if blocking.any (fun e => e.full.isNone) then (0x02#8, 0)
    else (0x01#8, (blocking.filterMap (fun e => e.full.map FullClaim.remaining)).foldl max 0)
  else (0x00#8, 0)

def groupPage1 (s : State) (g : Nat) : List Byte :=
  let gr := s.group g
  [gr.state.code, flag gr.held, flag gr.forced] ++ optBE 4 gr.lastTested ++
    [byte gr.fails, GResult.code gr.lastResult] ++ optBE 2 gr.age ++ bytesBE 2 gr.urgency ++
    bytesBE 2 gr.claimUrgency ++ [byte gr.backoff, flag gr.overdue, gr.note.code, (s.blockedUntil g).1] ++
    bytesBE 2 (s.blockedUntil g).2

/-- R92: the members of a TESTING group in each test state, in code order. -/
def State.memberCounts (s : State) (gr : Group) : List Byte :=
  (List.range 8).map (fun c =>
    if gr.state = .testing then byte (gr.defn.members.filter (fun n => decide ((s.lum n).test.code = c))).length
    else 0x00#8)

def groupPage2 (s : State) (g : Nat) : List Byte :=
  let gr := s.group g
  bytesBE 2 (if gr.state = .testing then s.elapsed gr else 0) ++
    bytesBE 2 (if gr.state = .testing then gr.round.getD 0 else 0) ++ s.memberCounts gr ++
    optBE 1 (if gr.state = .testing then gr.firstFailing else none) ++ bytesBE 2 gr.storedRecharge ++
    [flag (decide (gr.state = .recovering) && decide (s.inputs.mains ≠ .on))] ++ bytesBE 2 gr.storedRecharge ++
    optBE 1 gr.recFirstFailing ++ optBE 4 gr.recTestStart

def groupData (g page : Nat) (s : State) : Option (List Byte) :=
  if g < 24 then
    match page with
    | 0 => some (groupPage0 (s.group g))
    | 1 => some (groupPage1 s g)
    | 2 => some (groupPage2 s g)
    | _ => none
  else none

/-! ### LUMINAIRE -/

def lumPage0 (s : State) (n : Nat) : List Byte :=
  let l := s.lum n
  [byte l.test.code, byte l.startCount, byte l.achieved, flag l.endOwed, flag l.lastGood.isSome, l.endVolts, l.endFaults] ++
    bytesBE 2 (if l.test = .discharging then minutesBetween (l.ownStart.getD s.now) s.now else 0)

def lumPage1 (s : State) (n : Nat) : List Byte :=
  let l := s.lum n
  [BranchId.code l.branch, l.presence.code, byte l.misses, flag l.latest.isSome,
    (l.latest.map LatestReply.status).getD 0#8, (l.latest.map LatestReply.volts).getD 0#8,
    (l.latest.map LatestReply.faults).getD 0#8] ++
    optBE 4 (l.latest.map (fun r => (s.now - r.tick) / 1000)) ++ [l.reported] ++ l.record.bytes

def luminaireData (n page : Nat) (s : State) : Option (List Byte) :=
  if n < 128 then
    match page with
    | 0 => some (lumPage0 s n)
    | 1 => some (lumPage1 s n)
    | _ => none
  else none

/-! ### PEER ENTRY, EVENT STATUS, COUNTERS -/

def Entry.bytes (e : Entry) : List Byte :=
  [byte e.station, byte e.group, e.phase.code, flag e.full.isNone, byte e.weight] ++ bytesBE 2 e.age ++
    bytesBE 3 (setNat e.mask) ++ optBE 2 (e.full.map FullClaim.urgency) ++ optBE 2 (e.full.map FullClaim.remaining) ++
    optBE 2 (e.full.map FullClaim.home) ++ [byte ((e.full.map FullClaim.neighbours).getD []).length] ++
    sixZones ((e.full.map FullClaim.neighbours).getD [])

/-- The events whose cell satisfies a test, as a 32-bit set. -/
def EventUnit.setOf (u : EventUnit) (p : EventCell → Bool) : List Byte :=
  bytesBE 4 (setNat ((List.range 26).filter (fun k => p (u.cell k))))

def eventStatusData (index page : Nat) (s : State) : Option (List Byte) :=
  let details (ks : List Nat) : List Byte := ks.flatMap (fun k => (s.events.cell k).detail.bytes)
  if index = 0 then
    match page with
    | 0 =>
      some (s.events.setOf EventCell.raw ++ s.events.setOf EventCell.mask ++ s.events.setOf EventCell.status ++
        details (List.range 12))
    | 1 => some (details ((List.range 14).map (fun k => k + 12)))
    | _ => none
  else none

def countersData (index sub : Nat) (s : State) : Option (List Byte) :=
  if index = 0 ∧ sub = 0 then some [byte s.line.crcErrors, byte s.line.clashes, byte s.inputs.glitches] else none

end Sys2Proof.Machine
end

