-- ==== Sys2Proof/Machine/Service.lean ====
section
/-! DEFINITION. The service responder: which QUERY and COMMAND frames it takes, the order of its checks and the REPLY it queues
(R173 to R178). -/

namespace Sys2Proof.Machine

/-- An answer as it is decided: the status, the data and the state after the owner has acted. -/
structure Answer where
  status : Status
  data : List Byte
  state : State

/-- R174: one REPLY is queued as a service frame to the frame's source. -/
def sendReply (console : Byte) (echo : List Byte) (restart : Bool) (a : Answer) : State :=
  offer (.reply { console := console, status := a.status, echo := echo, data := a.data, restart := restart }) a.state

def plainAnswer (status : Status) (s : State) : Answer := { status := status, data := [], state := s }

/-- A QUERY or COMMAND is delivered, and answered if the responder takes it (R143, R174). -/
def serve (src dst : Byte) (answer : State → State) (s : State) : State :=
  deliver src dst (fun t => if t.takes src dst then answer t else t) s

/-- An echo byte that the frame carried, or else a free value (log 5). -/
def echoByte (s : State) (bytes : List Byte) (i : Nat) : Byte :=
  match bytes[i]? with
  | some b => b
  | none => Config.freeByte (s.free + i)

/-- Section 11.1: the echo of a QUERY: the item code, the index and the sub-index. -/
def queryEcho (s : State) (payload : List Byte) : List Byte :=
  [echoByte s payload 0, echoByte s payload 1, echoByte s payload 2]

/-- The free values that a QUERY's echo may have taken. -/
def queryFree (payload : List Byte) : Nat := if 3 ≤ payload.length then 0 else 3

/-- CLEAR ISOLATION and RESTART take no argument (R176). -/
def takesArgument (code : Byte) : Bool := decide (code ≠ 0x27#8) && decide (code ≠ 0x29#8)

/-- Section 11.1: the first argument byte of a COMMAND, or 00h. Bytes beyond those a command requires are ignored (R174). Of
a code that is in no table the next byte is taken for its first argument (log 38). -/
def argumentEcho (payload : List Byte) : Byte :=
  match payload with
  | code :: first :: _ => if takesArgument code then first else 0x00#8
  | _ => 0x00#8

/-- Section 11.1: the echo of a COMMAND: the command code, its first argument byte or 00h, then 00h. -/
def commandEcho (s : State) (payload : List Byte) : List Byte := [echoByte s payload 0, argumentEcho payload, 0x00#8]

def commandFree (payload : List Byte) : Nat := if 1 ≤ payload.length then 0 else 1

/-! ### Queries (R175) -/

/-- A QUERY whose data depend on the state alone: an index or sub-index outside the item's range has none. -/
def dataAnswer (data : Option (List Byte)) (s : State) : Answer :=
  match data with
  | some bytes => { status := .ok, data := bytes, state := s }
  | none => plainAnswer .badArgument s

/-- R175: the order in which a QUERY is judged. `open_` tells the item that UNCONFIGURED answers. -/
def judgeQuery (open_ : Bool) (args : List Byte) (item : Nat → Nat → State → Answer) (s : State) : Answer :=
  match args with
  | index :: sub :: _ =>
    if s.sup.mode = .unconfigured ∧ open_ = false then plainAnswer .unconfigured s else item index.toNat sub.toNat s
  | _ => plainAnswer .badArgument s

/-- A QUERY for an item is answered (R174, R175). -/
def answerQuery (src code : Byte) (open_ : Bool) (args : List Byte) (item : Nat → Nat → State → Answer) (s : State) : State :=
  sendReply src (queryEcho s (code :: args)) false (judgeQuery open_ args item (s.tookFree (queryFree (code :: args))))

/-- R66: the entry at a position in insertion order. -/
def peerEntryAnswer (index sub : Nat) (s : State) : Answer :=
  if index < 48 ∧ sub = 0 then
    match s.view[index]? with
    | some e => { status := .ok, data := e.bytes, state := s }
    | none => plainAnswer .notApplicable s
  else plainAnswer .badArgument s

/-- R163: a history line is answered from the cache, or its page is asked for. -/
def historyAnswer (n k : Nat) (s : State) : Answer :=
  if n < 128 ∧ k < 8 then
    if (s.lum n).record.count ≤ k then plainAnswer .notApplicable s
    else
      match s.mem.cache.find? (fun c => decide (c.lum = n)) with
      | some c =>
        let line := c.lines.getD (ringSlot (s.lum n).record.next k) ([], false)
        { status := if line.2 then .ok else .corrupt, data := line.1.take 14, state := s }
      | none =>
        if s.mem.fillPending.contains n then plainAnswer .retry s
        else if s.mem.fillPending.length < 4 then
          plainAnswer .retry (s.setMem { s.mem with fillPending := s.mem.fillPending ++ [n] })
        else plainAnswer .busy s
  else plainAnswer .badArgument s

/-! ### Commands (R176) -/

/-- R176, check 2: the source is an enabled authorised source; not checked in UNCONFIGURED. -/
def State.authorises (s : State) (src : Byte) : Bool :=
  decide (s.sup.mode = .unconfigured) || s.service.authorised.any (fun a => a.on && decide (a.address = src))

/-- R176, checks 1 to 4: the answer of the first that fails. -/
def State.refusal (s : State) (src : Byte) (isRestart needsKey : Bool) : Option Status :=
  if s.sup.mode = .unconfigured ∧ isRestart = false then some .unconfigured
  else if s.authorises src = false then some .refusedSource
  else if needsKey = true ∧ s.service.key ≠ .active then some .refusedKey
  else if s.service.restart.isSome then some .busy
  else none

/-- R176: SERVICE_REFUSED is raised where check 2 or check 3 fails. -/
def noteRefusal (src : Byte) (status : Status) (s : State) : State :=
  match status with
  | .refusedSource => raise .serviceRefused (consoleDetail src) s
  | .refusedKey => raise .serviceRefused (consoleDetail src) s
  | _ => s

/-- R176: a command runs the checks; check 5 fails where `carry` has no answer. -/
def judgeCommand (src : Byte) (isRestart needsKey : Bool) (carry : State → Option Answer) (s : State) : Answer :=
  match s.refusal src isRestart needsKey with
  | some status => plainAnswer status (noteRefusal src status s)
  | none => (carry s).getD (plainAnswer .badArgument s)

/-- A COMMAND is answered after its owner has acted (R174, R176). -/
def answerCommand (src code : Byte) (needsKey : Bool) (args : List Byte) (carry : State → Option Answer) (s : State) : State :=
  sendReply src (commandEcho s (code :: args)) false (judgeCommand src false needsKey carry s)

/-- A command that names a group in use: check 5, then NOT_APPLICABLE for an UNUSED one (R17 to R20). -/
def onGroup (args : List Byte) (f : Nat → State → Answer) (s : State) : Option Answer :=
  (argumentBelow 24 args).map (fun g => if (s.group g).inUse then f g s else plainAnswer .notApplicable s)

/-- R17: HOLD. -/
def holdGroup (g : Nat) (s : State) : Answer :=
  plainAnswer .ok (withdraw g (some .withdrawn) (s.modGroup g (fun gr => { gr with held := true, dirty := true })))

/-- R19: RESUME. -/
def resumeGroup (g : Nat) (s : State) : Answer :=
  plainAnswer .ok (s.modGroup g (fun gr => { gr with held := false, forced := false, dirty := true }))

/-- R18: FORCE. -/
def forceGroup (g : Nat) (s : State) : Answer := plainAnswer .ok (s.modGroup g (fun gr => { gr with forced := true }))

/-- R20: CANCEL. -/
def cancelGroup (g : Nat) (s : State) : Answer :=
  match (s.group g).state with
  | .proposed => plainAnswer .ok (withdraw g (some .withdrawn) s)
  | .testing => plainAnswer .ok (endTest g .cancelled true s)
  | _ => plainAnswer .notApplicable s

/-- R121: SET TIME; FFFFFFFFh is out of range. -/
def setTimeTo (args : List Byte) (s : State) : Option Answer :=
  match argument32 args with
  | some n =>
    if n = 0xFFFFFFFF then none
    else some (plainAnswer .ok { s with calendar := { s.calendar with minutes := n, seconds := 0, valid := true } })
  | none => none

/-- R134: CLEAR ISOLATION. -/
def clearIsolations (s : State) : State := s.setSup { s.sup with isolations := 0 }

/-- R108: a console probe is judged against the pass-through slot. -/
def judgeProbe (src : Byte) (n : Nat) (s : State) : Answer :=
  if s.loop.slot.isSome then plainAnswer .busy s
  else if (s.lum n).branch.isNone ∨ s.branchDown n = true then plainAnswer .notSent s
  else
    plainAnswer .ok { s with loop := { s.loop with slot := some { lum := n, console := src, inFlight := false } } }

/-- R178: a restart becomes pending, to be taken within 2 s of the tick. -/
def pendRestart (s : State) : State := { s with service := { s.service with restart := some 2, replyGone := false } }

/-- R176, R178: the RESTART command; its OK REPLY is the one whose leaving the queue takes the restart. -/
def answerRestart (src : Byte) (args : List Byte) (s : State) : State :=
  let a := judgeCommand src true true (fun t => some (plainAnswer .ok (pendRestart t))) s
  sendReply src (commandEcho s (0x29#8 :: args)) (decide (a.status = .ok)) a

/-- R174 to R176: an item or command code that is none, or a payload too short to hold one, passes the other checks and is
then answered BAD_ARGUMENT. -/
def answerUnknown (src : Byte) (kind : ServiceKind) (payload : List Byte) (s : State) : State :=
  match kind with
  | .query =>
    sendReply src (queryEcho s payload) false (plainAnswer .badArgument (s.tookFree (queryFree payload)))
  | .command =>
    sendReply src (commandEcho s payload) false
      (judgeCommand src false false (fun _ => none) (s.tookFree (commandFree payload)))

/-- Whether a payload's code has a row of its own. -/
def knownCode (kind : ServiceKind) (payload : List Byte) : Bool :=
  match kind, payload with
  | .query, code :: _ => knownItem code.toNat
  | .command, code :: _ => knownCommand code.toNat
  | _, [] => false

end Sys2Proof.Machine
end

