-- ==== Sys2Proof/Machine/CommandSteps.lean ====
section
/-! DEFINITION. The meanings of the COMMAND codes, and of a code that is none: SET_TIME, HOLD, RESUME, FORCE, CANCEL,
CLEAR_EVENTS, CLEAR_ISOLATION, PROBE, RESTART and UNKNOWN_SERVICE_CODE (R174, R176 to R178). -/

namespace Sys2Proof.Machine

/-- A COMMAND reaches its end at millisecond part `ms`. -/
def command (src dst code : Byte) (needsKey : Bool) (args : List Byte) (ms : Nat) (carry : State → Option Answer) (s : State) :
    Result :=
  live s (fun s => serve src dst (answerCommand src code needsKey args carry) (s.atMs ms))

/-- Command 21h (R121). -/
def execSetTime (src dst : Byte) (args : List Byte) (s : State) (ms : Nat := 0) : Result :=
  command src dst 0x21#8 false args ms (setTimeTo args) s

/-- Command 22h (R17). -/
def execHold (src dst : Byte) (args : List Byte) (s : State) (ms : Nat := 0) : Result :=
  command src dst 0x22#8 false args ms (onGroup args holdGroup) s

/-- Command 23h (R19). -/
def execResume (src dst : Byte) (args : List Byte) (s : State) (ms : Nat := 0) : Result :=
  command src dst 0x23#8 false args ms (onGroup args resumeGroup) s

/-- Command 24h, which needs the key (R18, R176). -/
def execForce (src dst : Byte) (args : List Byte) (s : State) (ms : Nat := 0) : Result :=
  command src dst 0x24#8 true args ms (onGroup args forceGroup) s

/-- Command 25h (R20); a test it ends is ended at millisecond part `ms`. -/
def execCancel (src dst : Byte) (args : List Byte) (ms : Nat) (s : State) : Result :=
  command src dst 0x25#8 false args ms (onGroup args cancelGroup) s

/-- R170: CLEAR EVENTS names its events by a 32-bit set. -/
def clearNamed (args : List Byte) (s : State) : Option Answer :=
  (argument32 args).map (fun named => plainAnswer .ok (clearEvents named s))

/-- Command 26h (R170). -/
def execClearEvents (src dst : Byte) (args : List Byte) (s : State) (ms : Nat := 0) : Result :=
  command src dst 0x26#8 false args ms (clearNamed args) s

/-- Command 27h (R134). -/
def execClearIsolation (src dst : Byte) (args : List Byte) (s : State) (ms : Nat := 0) : Result :=
  command src dst 0x27#8 false args ms (fun t => some (plainAnswer .ok (clearIsolations t))) s

/-- R108: PROBE names a luminaire from 0 to 127. -/
def probeNamed (src : Byte) (args : List Byte) (s : State) : Option Answer :=
  (argumentBelow 128 args).map (fun n => judgeProbe src n s)

/-- Command 28h (R108, R177). -/
def execProbe (src dst : Byte) (args : List Byte) (s : State) (ms : Nat := 0) : Result :=
  command src dst 0x28#8 false args ms (probeNamed src args) s

/-- Command 29h, which needs the key (R178). -/
def execRestart (src dst : Byte) (args : List Byte) (s : State) (ms : Nat := 0) : Result :=
  live s (fun s => serve src dst (answerRestart src args) (s.atMs ms))

/-- R174: a QUERY or COMMAND whose item or command code is in no table, or whose payload holds none. -/
def execUnknownServiceCode (src dst : Byte) (kind : ServiceKind) (payload : List Byte) (s : State) (ms : Nat := 0) : Result :=
  live s (fun s => if knownCode kind payload then s else serve src dst (answerUnknown src kind payload) (s.atMs ms))

end Sys2Proof.Machine
end

