-- ==== Sys2Proof/Machine/InputSteps.lean ====
section
/-! DEFINITION. The meanings of the steps that the input pins and their filters make: mains sense, inhibit and the service key
(R112 to R118, R173). -/

namespace Sys2Proof.Machine

def State.setPins (s : State) (p : Pins) : State := { s with pins := p }

def State.setInputs (s : State) (i : Inputs) : State := { s with inputs := i }

/-- A candidate that has held for `seconds` at stamp `now`. -/
def Candidate.heldFor (c : Candidate) (seconds now : Nat) : Bool := decide (c.since + 1000 * seconds ≤ now)

/-! ### Mains sense -/

/-- R113: a level of MSENSE agrees with the validated state. -/
def Mains.agrees (m : Mains) (high : Bool) : Bool :=
  match m with
  | .on => high
  | .off => !high
  | .unknown => false

/-- R113: at a change of level to `high` at stamp `now`, the excursion that returns counts as a glitch. -/
def Inputs.glitch (i : Inputs) (high : Bool) (now : Nat) : Bool :=
  decide (i.mains ≠ .unknown) && !i.mains.agrees i.mainsCand.high && !i.mainsCand.heldFor i.validation now &&
    i.mains.agrees high

/-- R112, R113: a change of level on MSENSE. -/
def Inputs.mainsLevel (i : Inputs) (high : Bool) (now : Nat) : Inputs :=
  { i with
    glitches := if i.glitch high now then min 255 (i.glitches + 1) else i.glitches
    mainsCand := { high := high, since := now } }

/-- The level on MSENSE changes; with the main supply, a new candidate starts. -/
def execMsenseChange (high : Bool) (ms : Nat) (s : State) : Result :=
  done s
    (if s.pins.msense = high then s
     else if s.powered then
      ((s.atMs ms).setPins { s.pins with msense := high }).setInputs (s.inputs.mainsLevel high (s.atMs ms).now)
     else s.setPins { s.pins with msense := high })

/-- R112: the mains candidate has held for the validation time and differs from the validated state. -/
def State.mainsReady (s : State) (high : Bool) : Bool :=
  decide (s.inputs.mainsCand.high = high) && s.inputs.mainsCand.heldFor s.inputs.validation s.now &&
    !s.inputs.mains.agrees high

/-- R114, R38, R84: the validated OFF. DESIGN CHOICE: R114 gives no order of the events of this moment, and MAINS_LOST is
raised before the withdrawals and aborts, so its report stands first (log 41); the claim engine acts before the test
engine (log 19). -/
def mainsOff (s : State) : State :=
  endAllTests .abortedMains false (withdrawAll (some .aborted)
    (raise .mainsLost noDetail (s.setInputs { s.inputs with mains := .off, outageTimer := 0 })))

def execValidatedOff (ms : Nat) (s : State) (idle : Bool := false) : Result :=
  live s (fun s => if (s.atMs ms).mainsReady false then mainsOff (drawnWhileIdle idle (s.atMs ms)) else s)

/-- R115: the outage duration in minutes. -/
def outageDuration (timer : Nat) : Nat := (timer + 59) / 60

/-- R116: the outage hold after an outage of `d` minutes. -/
def outageHoldAfter (hold d : Nat) : Nat := max hold (min 2880 (8 * d))

/-- R115, R116: the validated ON, from OFF or at the first validation. -/
def mainsOn (s : State) : State :=
  if s.inputs.mains = .off then
    raise .mainsRestored noDetail (s.setInputs
      { s.inputs with
        mains := .on, outageTimer := 0, lastOutage := outageDuration s.inputs.outageTimer,
        outageHold := outageHoldAfter s.inputs.outageHold (outageDuration s.inputs.outageTimer) })
  else s.setInputs { s.inputs with mains := .on }

def execValidatedOn (ms : Nat) (s : State) : Result :=
  live s (fun s => if (s.atMs ms).mainsReady true then mainsOn (s.atMs ms) else s)

/-- R116: the outage hold has reached 0 within the minute tick that decreased it. Condition 4 of R10 and check 3 of R40
read the hold itself, so nothing more happens. -/
def execOutageHoldExpiry (s : State) : Result := live s (fun s => s)

/-! ### Inhibit -/

/-- R117: a change of level on INHIBIT. -/
def execInhibitChange (high : Bool) (ms : Nat) (s : State) : Result :=
  done s
    (if s.pins.inhibit = high then s
     else if s.powered then
      ((s.atMs ms).setPins { s.pins with inhibit := high }).setInputs
        { s.inputs with inhibitCand := { high := high, since := (s.atMs ms).now } }
     else s.setPins { s.pins with inhibit := high })

/-- R117, R173: the state that a level, high for active, validates. -/
def Contact.ofLevel (high : Bool) : Contact := if high then .active else .inactive

/-- R117, R118: the candidate becomes the validated state, and a validated INACTIVE returns the stuck timer to 0. -/
def Inputs.inhibitTaken (i : Inputs) : Inputs :=
  { i with
    inhibit := Contact.ofLevel i.inhibitCand.high
    stuck := if i.inhibitCand.high then i.stuck else 0 }

/-- R117: the inhibit candidate has held for 2 s and differs from the validated state. -/
def State.inhibitReady (s : State) : Bool :=
  s.inputs.inhibitCand.heldFor 2 s.now && decide (s.inputs.inhibit ≠ Contact.ofLevel s.inputs.inhibitCand.high)

def execInhibitValidated (ms : Nat) (s : State) : Result :=
  live s (fun s => if (s.atMs ms).inhibitReady then (s.atMs ms).setInputs s.inputs.inhibitTaken else s)

/-- R118: the stuck timer has reached 10,080. -/
def execInhibitStuck (s : State) : Result :=
  live s (fun s =>
    if s.inputs.stuckDue then raise .inhibitStuck noDetail (s.setInputs { s.inputs with stuckDue := false }) else s)

/-! ### Service key -/

def State.setService (s : State) (v : Service) : State := { s with service := v }

/-- R173: a change of level on SKEY. -/
def execSkeyChange (high : Bool) (ms : Nat) (s : State) : Result :=
  done s
    (if s.pins.skey = high then s
     else if s.powered then
      ((s.atMs ms).setPins { s.pins with skey := high }).setService
        { s.service with keyCand := { high := high, since := (s.atMs ms).now } }
     else s.setPins { s.pins with skey := high })

/-- R173: the key candidate has held for its validation time and differs from the validated state. -/
def State.keyReady (s : State) : Bool :=
  s.service.keyCand.heldFor 2 s.now && decide (s.service.key ≠ Contact.ofLevel s.service.keyCand.high)

def execSkeyValidated (ms : Nat) (s : State) : Result :=
  live s (fun s =>
    if (s.atMs ms).keyReady then
      (s.atMs ms).setService { s.service with key := Contact.ofLevel s.service.keyCand.high }
    else s)

end Sys2Proof.Machine
end

