-- ==== Sys2Proof/Machine/LineSteps.lean ====
section
/-! DEFINITION. The meanings of the line interface's own steps: access, completion, collision, the driver monitor, the held line
(Chapter 8), and the offer of a report (R169). -/

namespace Sys2Proof.Machine

/-! ### Access (R146, R148, R149) -/

/-- R146: the oldest waiting frame of the first class that holds one. -/
def firstFrame (waiting : List TxFrame) : Option TxFrame :=
  match waiting.find? TxFrame.isProtocol, waiting.find? TxFrame.isBeacon with
  | some f, _ => some f
  | none, some f => some f
  | none, none => waiting.head?

/-- R30: a BEACON's contents, built when it becomes current: at most four claims, in ascending group number. -/
def State.beaconBody (s : State) : BeaconBody :=
  { mode := s.sup.mode, valid := s.calendar.valid, minutes := s.calendar.minutes, weight := s.ownWeight,
    claims := (s.ownSet.take 4).map (fun g =>
      (g, match (s.group g).state with
          | .testing => .testing
          | .recovering => .recovering
          | _ => .proposed)) }

/-- R146, R148: the frame chosen at the slot becomes current, with attempt count 1 and W = 16, and is sent. -/
def choose (f : TxFrame) (s : State) : State :=
  s.setLine
    { s.line with
      waiting := s.line.waiting.erase f
      current := some
        { frame := f, attempt := 1, window := 16, sending := true,
          chars := f.chars (s.sup.address.getD 0) s.beaconBody }
      slot := none }

/-- R148: the slot wait ends with the line still recessive. -/
def startAttempt (s : State) : State :=
  match s.line.current with
  | some c => s.setLine { s.line with current := some { c with sending := true }, slot := none }
  | none =>
    match firstFrame s.line.waiting with
    | some f => choose f s
    | none => s

def execTxAttemptStart (s : State) : Result :=
  live s (fun s => if s.accesses then startAttempt (drawIfNone s) else s)

/-- R148: a start bit appears during the slot wait of a drawn slot. -/
def execTxDefer (s : State) : Result := live s (fun s => if s.accesses then endSlotWait (drawIfNone s) else s)

/-- R32: the transmit completion of a PROPOSED CLAIM starts the hold of a group still awaiting it. -/
def startHold (f : TxFrame) (s : State) : State :=
  match f with
  | .claim g c =>
    if c.phase = .proposed ∧ (s.group g).state = .proposed then
      s.modGroup g (fun gr =>
        { gr with
          claim := gr.claim.map (fun r => if r.hold = some .awaiting then { r with hold := some (.running 0) } else r) })
    else s
  | _ => s

/-- R148: the current frame is sent without a collision. -/
def execTxComplete (s : State) : Result :=
  live s (fun s =>
    match s.line.current with
    | some c => if c.sending then startHold c.frame (dropCurrent s) else s
    | none => s)

/-- R149: an attempt before the eighth ends in a collision. -/
def retryLater (c : Current) (s : State) : State :=
  s.setLine
    { s.line with
      current := some { c with attempt := c.attempt + 1, window := min 128 (2 * c.window), sending := false }
      slot := none }

/-- R34: the claim engine takes the drop of a PROPOSED CLAIM; any other drop changes nothing there. -/
def dropReported (f : TxFrame) (s : State) : State :=
  match f with
  | .claim g c => if c.phase = .proposed then withdraw g none s else s
  | _ => s

/-- R149: the eighth attempt ends in a collision and the frame is dropped. -/
def dropFrame (c : Current) (s : State) : State :=
  dropReported c.frame (raise .txDropped (kindDetail c.frame.kind) (dropCurrent s))

def execTxCollision (s : State) : Result :=
  live s (fun s =>
    match s.line.current with
    | some c => if c.sending then (if c.attempt < 8 then retryLater c s else dropFrame c s) else s
    | none => s)

/-! ### The driver monitor and the held line (R145, R150, R151) -/

/-- R150: the driver is cut after more than 16 dominant bit times. -/
def cutDriver (s : State) : State :=
  let t := emptyQueue s
  enterIsolatedDriver (endAllTests .abortedLine true (withdrawAll none
    (raise .driverCut noDetail (t.setLine { t.line with cut := some 60 }))))

def execDriverCut (bits ms : Nat) (s : State) : Result :=
  live s (fun s => if 16 < bits ∧ s.line.cut = none then cutDriver (s.atMs ms) else s)

/-- R151, R133: the driver is reconnected. -/
def execDriverReenable (s : State) : Result :=
  live s (fun s =>
    if expired s.line.cut then
      let t := s.setLine { s.line with cut := none }
      if t.sup.mode = .isolated ∧ t.sup.reason = .driver then enterListening t else t
    else s)

/-- R145: 64 dominant bit times that this station did not drive. -/
def execLineHeld (bits : Nat) (s : State) : Result :=
  live s (fun s =>
    if 64 ≤ bits ∧ s.line.held = false then
      raise .lineHeld noDetail (s.setLine { s.line with held := true, receiver := .idle })
    else s)

/-- R145: the line has been idle for 12 bit times. -/
def execLineHeldCleared (bits : Nat) (s : State) : Result :=
  live s (fun s => if 12 ≤ bits then s.setLine { s.line with held := false } else s)

/-! ### Reports (R169) -/

/-- R169: the conditions on which the oldest report is offered. -/
def State.offersReport (s : State) : Bool :=
  decide (s.sup.mode ≠ .loading) &&
    !(s.line.waiting ++ (s.line.current.map Current.frame).toList).any TxFrame.isEvent && !s.line.full &&
    s.line.backlog.isEmpty

/-- R169: the oldest pending report becomes an EVENT frame in the queue. -/
def execReportOffer (s : State) : Result :=
  live s (fun s =>
    match s.events.reports with
    | r :: rest =>
      if s.offersReport then offer (.event r) { s with events := { s.events with reports := rest } } else s
    | [] => s)

end Sys2Proof.Machine
end

