-- ==== Sys2Proof/Machine/Loop.lean ====
section
/-! DEFINITION. The loop controller: the arbiter's choice, the sweep, and what a completed transaction does to presence, the
failure window, the branch and its source (R72, R98 to R107, R109). -/

namespace Sys2Proof.Machine

/-! ### The arbiter (R72, R103, R105) -/

/-- Whether a luminaire lies on a branch. -/
def State.onBranch (s : State) (b : BranchId) (n : Nat) : Bool := decide ((s.lum n).branch = some b)

/-- R72: at a grant, the START requests of a branch that has gone DOWN are removed. -/
def dropStarts (b : BranchId) (s : State) : State :=
  if (s.branch b).down then
    { s with
      lums := s.lums.map (fun l => if l.branch = some b ∧ l.request = some .start then { l with request := none } else l) }
  else s

/-- R72, 1: the lowest luminaire of the branch that is owed an END. -/
def State.owedEnd (s : State) (b : BranchId) : Option Nat :=
  lumAddresses.find? (fun n => s.onBranch b n && (s.lum n).endOwed)

/-- A member of a group on the branch with this request pending, lowest address first. -/
def State.requestOf (s : State) (b : BranchId) (r : Request) (g : Nat) : Option Nat :=
  lumAddresses.find? (fun n =>
    (s.group g).defn.members.contains n && s.onBranch b n && decide ((s.lum n).request = some r))

/-- R72, 2: the TESTING groups that hold a START or PROBE request for the branch, ascending. -/
def State.askingGroups (s : State) (b : BranchId) : List Nat :=
  (s.groupsIn (fun st => decide (st = .testing))).filter (fun g =>
    (s.requestOf b .start g).isSome || (s.requestOf b .probe g).isSome)

/-- R72, 2: of two groups, the one that is not the branch's last served group, else the lower-numbered. -/
def chooseGroup (last : Option Nat) (asking : List Nat) : Option Nat :=
  match asking.find? (fun g => decide (some g ≠ last)) with
  | some g => some g
  | none => asking.head?

/-- The branch's transaction in flight begins (R98). -/
def beginLoop (b : BranchId) (n : Nat) (c : LoopCommand) (source : LoopSource) (argument : List Byte) (s : State) : State :=
  s.setBranch b
    { s.branch b with
      txn := some { lum := n, command := c, source := source, attempt := 1, chars := loopFrame n c argument } }

/-- START's argument: the self-end minutes T + 15 (R72, R96). -/
def State.selfEnd (s : State) (g : Nat) : List Byte := [byte ((s.group g).defn.minutes + 15)]

/-- A request of group `g` is presented: it leaves the pending work, and the group is the branch's last served. -/
def presentRequest (b : BranchId) (g n : Nat) (c : LoopCommand) (argument : List Byte) (s : State) : State :=
  let t := (s.modLum n (fun l => { l with request := none })).setBranch b { s.branch b with lastServed := some g }
  beginLoop b n c .test argument t

/-- R72, R103: what the TEST source presents for a free branch, none if it holds no work for it. -/
def grantTest (b : BranchId) (s : State) : Option State :=
  match s.owedEnd b with
  | some n => some (beginLoop b n .endTest .test [] s)
  | none =>
    match chooseGroup (s.branch b).lastServed (s.askingGroups b) with
    | some g =>
      match s.requestOf b .start g, s.requestOf b .probe g with
      | some n, _ => some (presentRequest b g n .start (s.selfEnd g) s)
      | none, some n => some (presentRequest b g n .probe [] s)
      | none, none => none
    | none => none

/-- R103, R109: what the PASS-THROUGH source presents. -/
def grantPassThrough (b : BranchId) (s : State) : Option State :=
  match s.loop.slot with
  | some p =>
    if p.inFlight = false ∧ s.onBranch b p.lum = true then
      some (beginLoop b p.lum .probe .passThrough [] { s with loop := { s.loop with slot := some { p with inFlight := true } } })
    else none
  | none => none

/-- R105: the lowest address at or above the cursor that is a member of a group on this branch and not under test. -/
def State.sweepNext (s : State) (b : BranchId) (cursor : Nat) : Option Nat :=
  lumAddresses.find? (fun n =>
    decide (cursor ≤ n) && s.onBranch b n && (s.groupOf n).isSome && !s.underTest n)

/-- R105, R106: what the SWEEP source does when it is offered the branch. -/
def grantSweep (b : BranchId) (s : State) : State :=
  match (s.branch b).sweep with
  | some cursor =>
    if s.inputs.mains = .off then s
    else
      match s.sweepNext b cursor with
      | some n => beginLoop b n .probe .sweep [] (s.setBranch b { s.branch b with sweep := some (n + 1) })
      | none => s.setBranch b { s.branch b with sweep := none }
  | none => s

/-- R103: the branch is offered to TEST, PASS-THROUGH and SWEEP in order. -/
def grantBranch (b : BranchId) (s : State) : State :=
  let t := dropStarts b s
  match grantTest b t with
  | some u => u
  | none =>
    match grantPassThrough b t with
    | some u => u
    | none => grantSweep b t

/-! ### Completion (R99 to R102, R107, R109) -/

/-- R100: presence and miss count of the luminaire a transaction addressed, and its latest reply. -/
def updatePresence (n : Nat) (reply : Option LoopReply) (s : State) : State :=
  let l := s.lum n
  match reply with
  | some r =>
    let t := s.modLum n (fun l =>
      { l with
        presence := .present, misses := 0,
        latest := some { tick := s.now, status := r.status, volts := r.volts, faults := r.faults } })
    if l.presence = .absent then raise .luminaireReturned (lumDetail n) t else t
  | none =>
    if l.presence = .absent then s
    else if l.misses < 2 then s.modLum n (fun l => { l with misses := l.misses + 1 })
    else raise .luminaireAbsent (lumDetail n) (s.modLum n (fun l => { l with misses := 3, presence := .absent }))

/-- R101: the window keeps the last eight transactions. -/
def pushWindow (w : List WindowRecord) (r : WindowRecord) : List WindowRecord :=
  let v := w ++ [r]
  v.drop (v.length - 8)

/-- The distinct addresses of a window's records. -/
def distinctLums : List WindowRecord → List Nat
  | [] => []
  | r :: rs => if (distinctLums rs).contains r.lum then distinctLums rs else r.lum :: distinctLums rs

/-- R101: the window brings an UP branch down. -/
def condemns (w : List WindowRecord) : Bool :=
  decide (w.length = 8) && w.all (fun r => !r.good) && decide (3 ≤ (distinctLums w).length)

/-- R101, R102: the failure window and the branch state after a transaction to luminaire `n`. -/
def updateWindow (b : BranchId) (n : Nat) (good : Bool) (s : State) : State :=
  let w := pushWindow (s.branch b).window { lum := n, good := good }
  if (s.branch b).down then
    if good then raise .branchUp (lumDetail n) (s.setBranch b { s.branch b with window := w, down := false })
    else s.setBranch b { s.branch b with window := w }
  else if condemns w then raise .branchDown (lumDetail n) (s.setBranch b { s.branch b with window := w, down := true })
  else s.setBranch b { s.branch b with window := w }

/-- R107: the fault report of a good reply to a sweep probe. -/
def sweepReport (n : Nat) (reply : Option LoopReply) (s : State) : State :=
  match reply with
  | some r =>
    if r.faults = (s.lum n).reported then s
    else
      let t := s.modLum n (fun l => { l with reported := r.faults })
      if r.faults = 0#8 then t else raise .luminaireFault (lumDetail n) t
  | none => s

/-- R109: the second REPLY of a console probe. -/
def probeReply (p : Slot) (reply : Option LoopReply) : Reply :=
  match reply with
  | some r =>
    { console := p.console, status := .ok, echo := [0x28#8, byte p.lum, 0x00#8],
      data := [byte p.lum, r.status, r.volts, r.faults], restart := false }
  | none =>
    { console := p.console, status := .noReply, echo := [0x28#8, byte p.lum, 0x00#8], data := [byte p.lum],
      restart := false }

/-- R109: a pass-through probe completes: its REPLY is queued and the slot is empty. -/
def slotReport (reply : Option LoopReply) (s : State) : State :=
  match s.loop.slot with
  | some p => { offer (.reply (probeReply p reply)) s with loop := { s.loop with slot := none } }
  | none => s

/-- R99: a transaction completes: presence, then the branch, then its source. -/
def completeLoop (b : BranchId) (t : LoopTxn) (reply : Option LoopReply) (s : State) : State :=
  let freed := s.setBranch b { s.branch b with txn := none }
  let u := updateWindow b t.lum reply.isSome (updatePresence t.lum reply freed)
  match t.source with
  | .test => testOutcome t.lum t.command reply u
  | .passThrough => slotReport reply u
  | .sweep => sweepReport t.lum reply u

/-- R98: whether the characters of a window end the transaction: a good reply, or none at the second attempt. -/
def LoopTxn.ends (t : LoopTxn) (chars : List LoopChar) : Bool := (goodReply t.lum chars).isSome || decide (t.attempt = 2)

end Sys2Proof.Machine
end

