-- ==== Sys2Proof/Machine/LoopSteps.lean ====
section
/-! DEFINITION. The meanings of BRANCH_GRANT, LOOP_RETRY, LOOP_TRANSACTION_COMPLETE and SWEEP_START (Chapter 5). -/

namespace Sys2Proof.Machine

/-- R103: a free branch is offered to the sources in order; the arbiter does not run in LOADING (R126). -/
def execBranchGrant (b : BranchId) (s : State) : Result :=
  live s (fun s => if s.sup.mode ≠ .loading ∧ (s.branch b).txn = none then grantBranch b s else s)

/-- R98: the first attempt has failed, so the same characters are sent again as the second. -/
def retryLoop (b : BranchId) (t : LoopTxn) (s : State) : State :=
  s.setBranch b { s.branch b with txn := some { t with attempt := 2 } }

/-- R98: the reply window of a first attempt closes without a good reply. -/
def execLoopRetry (b : BranchId) (chars : List LoopChar) (s : State) : Result :=
  live s (fun s =>
    match (s.branch b).txn with
    | some t => if t.attempt = 1 ∧ goodReply t.lum chars = none then retryLoop b t s else s
    | none => s)

/-- R98, R99: a transaction completes, good or failed. -/
def execLoopTransactionComplete (b : BranchId) (chars : List LoopChar) (ms : Nat) (s : State) : Result :=
  live s (fun s =>
    match (s.branch b).txn with
    | some t => if t.ends chars then completeLoop b t (goodReply t.lum chars) (s.atMs ms) else s
    | none => s)

/-- R104: the sweep countdown has reached 0. -/
def execSweepStart (s : State) : Result := live s (fun s => if expired s.loop.sweepCountdown then startSweep s else s)

end Sys2Proof.Machine
end

