-- ==== Sys2Proof/Machine/MemorySteps.lean ====
section
/-! DEFINITION. The meanings of MEMORY_GRANT, FLUSH_COMPLETE, HISTORY_LINE_WRITTEN and FILL_COMPLETE (R153, R160 to R165). -/

namespace Sys2Proof.Machine

/-- R165: the memory is free, and the arbiter offers it; in LOADING the loader alone uses it (R153). -/
def execMemoryGrant (s : State) : Result :=
  live s (fun s => if s.sup.mode ≠ .loading ∧ s.mem.txn = none then grantMemory s else s)

/-- R160: the write of a group or luminaire record completes. -/
def execFlushComplete (s : State) : Result :=
  live s (fun s =>
    match s.mem.txn with
    | some (.flushGroup _ offset bytes) => recordWritten offset bytes s
    | some (.flushLum _ offset bytes) => recordWritten offset bytes s
    | _ => s)

/-- R162: the write of a history line completes. -/
def execHistoryLineWritten (s : State) : Result :=
  live s (fun s =>
    match s.mem.txn with
    | some (.append line offset bytes) => lineWritten line offset bytes s
    | _ => s)

/-- R164: the read of a luminaire's history page completes. -/
def execFillComplete (answer : MemAnswer) (s : State) : Result :=
  live s (fun s =>
    match s.mem.txn with
    | some (.fill n arrived) =>
      filled n arrived (s.mem.nvm.answer (historyOffset n 0) 128 answer).1
        (s.mem.nvm.answer (historyOffset n 0) 128 answer).2 s
    | _ => s)

end Sys2Proof.Machine
end

