-- ==== Sys2Proof/Machine/PeerSteps.lean ====
section
/-! DEFINITION. The meanings of the frames received from peers and of the peer view's own steps. Of a frame that reaches several
blocks the supervisor takes it first, then the peer view with the claim engine, then the calendar (log 16). -/

namespace Sys2Proof.Machine

/-- R51 to R53, R35: a CLAIM. -/
def execClaimReceived (src dst : Byte) (payload : List Byte) (ms : Nat) (s : State) : Result :=
  live s (fun s =>
    deliverProtocol src dst
      (fun t =>
        match ClaimFrame.read payload with
        | some c => takeClaim src.toNat c t
        | none => t)
      (s.atMs ms))

/-- R54: a RELEASE. -/
def execReleaseReceived (src dst : Byte) (payload : List Byte) (ms : Nat) (s : State) : Result :=
  live s (fun s =>
    deliverProtocol src dst
      (fun t =>
        match ReleaseFrame.read payload with
        | some r => removeEntry src.toNat r.group t
        | none => t)
      (s.atMs ms))

/-- R122: adoption of a BEACON's time while time-valid is clear. -/
def adoptTime (b : BeaconFrame) (s : State) : State :=
  if s.calendar.valid = false ∧ b.valid = true ∧ b.minutes ≠ 0xFFFFFFFF then
    { s with calendar := { s.calendar with minutes := b.minutes, seconds := 0, valid := true } }
  else s

/-- R57, R122: a BEACON. -/
def execBeaconReceived (src dst : Byte) (payload : List Byte) (ms : Nat) (s : State) : Result :=
  live s (fun s =>
    deliverProtocol src dst
      (fun t =>
        match BeaconFrame.read payload with
        | some b => adoptTime b (takeBeacon src.toNat b t)
        | none => t)
      (s.atMs ms))

/-- The kinds whose frames have rows of their own (section 8.2). -/
def ownRowKind (kind : Byte) : Bool := decide (kind = 0x01#8 ∨ kind = 0x02#8 ∨ kind = 0x03#8)

/-- A QUERY or COMMAND that the service responder takes falls under the row of its item or code (R143, R174; log 31). -/
def State.servesFrame (s : State) (src dst kind : Byte) : Bool :=
  decide (kind = 0x10#8 ∨ kind = 0x12#8) && s.takes src dst

/-- R143: a frame of another kind reaches the supervisor alone. -/
def execOtherFrameReceived (src dst kind : Byte) (ms : Nat) (s : State) : Result :=
  live s (fun s =>
    if ownRowKind kind || s.servesFrame src dst kind then s else deliver src dst (fun t => t) (s.atMs ms))

/-- R142: a frame that does not reach its end. -/
def execRxFrameBroken (how : RxBreak) (chars : List Byte) (s : State) : Result :=
  live s (fun s =>
    if s.receives && breakFits how chars then
      if breakCounted how then countCrcError (receiverIdle s) else receiverIdle s
    else s)

/-- R143, R144: what the receive checks do with a complete frame that they discard; a frame that passes them all is not
discarded. R144 tests the kinds CLAIM, RELEASE and BEACON. -/
def discardFrame (chars : List Byte) (s : State) : State :=
  let src := chars.getD 0 0#8
  let dst := chars.getD 1 0#8
  if crc16Good chars then
    if s.addressed src dst && ownRowKind (chars.getD 2 0#8) && s.clashes src then countClash (receiverIdle s)
    else if s.addressed src dst then s else receiverIdle s
  else countCrcError (receiverIdle s)

/-- R143: a complete frame is discarded. -/
def execRxFrameDiscarded (chars : List Byte) (s : State) : Result :=
  live s (fun s => if s.receives && completeFrame chars then discardFrame chars s else s)

/-- R55: the first entry in list order whose age has reached 300 s is removed. Until this step is taken the entry stands
in the view at age 300 (log 42). -/
def execEntryAgeOut (s : State) : Result :=
  live s (fun s =>
    match s.view.find? (fun e => decide (300 ≤ e.age)) with
    | some e => removeEntry e.station e.group s
    | none => s)

/-- R56: the entries whose recharge the minute tick has found ended are removed. -/
def execPeerRechargeEnd (s : State) : Result := live s removeEnded

/-- R61: the overflow hold has reached 0. -/
def execOverflowHoldExpiry (s : State) : Result :=
  live s (fun s => if expired s.overflow then { s with overflow := none } else s)

end Sys2Proof.Machine
end

