-- ==== Sys2Proof/Machine/QuerySteps.lean ====
section
/-! DEFINITION. The meanings of the QUERY items: STATION_STATUS, GROUP, LUMINAIRE, HISTORY, PEER_ENTRY, EVENT_STATUS and COUNTERS
(R174, R175). -/

namespace Sys2Proof.Machine

/-- An item whose data is a view of the state, none where an index or sub-index is out of range. -/
def viewItem (data : Nat → Nat → State → Option (List Byte)) (index sub : Nat) (s : State) : Answer :=
  dataAnswer (data index sub s) s

/-- A QUERY for one item reaches its end at millisecond part `ms`, to which the minutes and seconds since a stamp are
counted. -/
def query (src dst code : Byte) (open_ : Bool) (args : List Byte) (ms : Nat) (item : Nat → Nat → State → Answer) (s : State) :
    Result :=
  live s (fun s => serve src dst (answerQuery src code open_ args item) (s.atMs ms))

/-- Item 01h, which UNCONFIGURED answers too. -/
def execStationStatus (src dst : Byte) (args : List Byte) (s : State) (ms : Nat := 0) : Result :=
  query src dst 0x01#8 true args ms (viewItem stationStatusData) s

/-- Item 02h (R23). -/
def execGroup (src dst : Byte) (args : List Byte) (ms : Nat) (s : State) : Result :=
  query src dst 0x02#8 false args ms (viewItem groupData) s

/-- Item 03h (R92). -/
def execLuminaire (src dst : Byte) (args : List Byte) (ms : Nat) (s : State) : Result :=
  query src dst 0x03#8 false args ms (viewItem luminaireData) s

/-- Item 04h (R163). -/
def execHistory (src dst : Byte) (args : List Byte) (s : State) (ms : Nat := 0) : Result :=
  query src dst 0x04#8 false args ms historyAnswer s

/-- Item 05h (R66). -/
def execPeerEntry (src dst : Byte) (args : List Byte) (s : State) (ms : Nat := 0) : Result :=
  query src dst 0x05#8 false args ms peerEntryAnswer s

/-- Item 06h (R168). -/
def execEventStatus (src dst : Byte) (args : List Byte) (s : State) (ms : Nat := 0) : Result :=
  query src dst 0x06#8 false args ms (viewItem eventStatusData) s

/-- Item 07h (R113, R152). -/
def execCounters (src dst : Byte) (args : List Byte) (s : State) (ms : Nat := 0) : Result :=
  query src dst 0x07#8 false args ms (viewItem countersData) s

end Sys2Proof.Machine
end

