-- ==== Sys2Proof/Machine/Load.lean ====
section
/-! DEFINITION. Initialisation at a reset, the start-up load and the end of LOADING (R22, R91, R94, R112, R119, R120, R125 to
R127, R154 to R158, R167, R178). -/

namespace Sys2Proof.Machine

/-! ### Initialisation (R126, R178) -/

/-- Every block at its reset values, with the isolation counter that is given. The backup domain, the levels on the pins
and the external memory are no part of any block's working state. Each candidate is the level on its pin at the end of the
reset, started at that moment (R112, R117, R173). -/
def initialise (isolations : Nat) (s : State) : State :=
  let t := s.abandonMemory
  { State.reset with
    calendar := s.calendar.checkLatch
    pins := s.pins
    inputs :=
      { State.reset.inputs with
        mainsCand := { high := s.pins.msense, since := 0 }, inhibitCand := { high := s.pins.inhibit, since := 0 } }
    sup := { State.reset.sup with isolations := isolations }
    mem := { State.reset.mem with nvm := t.mem.nvm }
    service := { State.reset.service with keyCand := { high := s.pins.skey, since := 0 } }
    free := t.free
    pending := s.pending }

/-- POWER_LOSS: no working state is left, and the calendar's counts and latch stay as they are. -/
def losePower (s : State) : State :=
  { initialise 0 s with powered := false, calendar := s.calendar }

/-! ### The configuration block (R154, R155, R94) -/

/-- R94: ROUTE_FAIL for every member of a group on no branch, in ascending address. -/
def routeCheck (s : State) : State :=
  lumAddresses.foldl
    (fun t n => if (t.groupOf n).isSome && (t.lum n).branch.isNone then raise .routeFail (lumDetail n) t else t) s

/-- R1, R155: the group definitions take their places in the table. -/
def placeDefs : List Group → List GroupDef → List Group
  | gr :: grs, d :: ds => { gr with defn := d } :: placeDefs grs ds
  | grs, [] => grs
  | [], _ => []

/-- R94: every loop address takes its branch. -/
def assignBranches (f : Figures) (lums : List Lum) : List Lum := lums.mapIdx (fun n l => { l with branch := branchOf f n })

/-- R154: a good configuration block. The line rate and the mains validation time are handed over at once (R140, R112);
the other figures wait for the end of LOADING. -/
def goodConfig (bytes : List Byte) (s : State) : State :=
  let f := Figures.read bytes
  routeCheck
    { s with
      loader := { s.loader with figures := some f }
      groups := placeDefs s.groups (buildDefs bytes 24 0 [])
      lums := assignBranches f s.lums
      inputs := { s.inputs with validation := f.validation }
      line := { s.line with rate := f.rate } }

/-- What the loader reads after a record (section 9.3). -/
def LoadStep.after : LoadStep → LoadStep
  | .config => .groupRecord 0
  | .groupRecord g => if g < 23 then .groupRecord (g + 1) else .lumRecord 0
  | .lumRecord n => if n < 127 then .lumRecord (n + 1) else .done
  | .done => .done

def advanceLoader (s : State) : State := { s with loader := { s.loader with next := s.loader.next.after } }

/-- R154: the configuration block has been read. -/
def configRead (bytes : List Byte) (s : State) : State :=
  advanceLoader (if crc16Good bytes then goodConfig bytes s else s)

/-! ### Group records (R156) -/

def noteRestored (g : Nat) (r : Restored) (s : State) : State :=
  { s with loader := { s.loader with restored := s.loader.restored ++ [(g, r)] } }

/-- The claim record of a restored group: phase RECOVERING, refresh stopped (R26). -/
def restoredClaim : ClaimRecord := { phase := .recovering, hold := none, refresh := none }

/-- R156: a group in use is restored from its record. -/
def restoreGroup (g : Nat) (record : Option GroupRecord) (s : State) : State :=
  match record with
  | some r =>
    match r.phase with
    | .idle =>
      s.modGroup g (fun gr =>
        { gr with
          state := .idle, lastTested := r.lastTested, fails := r.fails, lastResult := r.lastResult, held := r.held,
          recTestStart := r.testStart, recFirstFailing := r.firstFailing, claim := none })
    | .recovering =>
      noteRestored g .storedRecovering (s.modGroup g (fun gr =>
        { gr with
          state := .recovering, lastTested := r.lastTested, fails := r.fails, lastResult := r.lastResult,
          held := r.held, recTestStart := r.testStart, recFirstFailing := r.firstFailing,
          firstFailing := r.firstFailing, recharge := some r.recharge, claim := some restoredClaim }))
    | .testing =>
      noteRestored g .storedTesting (s.modGroup g (fun gr =>
        { gr with
          state := .recovering, lastTested := r.lastTested, fails := min 7 (r.fails + 1),
          lastResult := some .abortedRestart, held := r.held, recTestStart := r.testStart, recFirstFailing := none,
          firstFailing := none, recharge := some (60 * gr.defn.rechargeHours), claim := some restoredClaim,
          dirty := true }))
  | none =>
    raise .recordCrcError (groupDetail g) (noteRestored g .damaged (s.modGroup g (fun gr =>
      { gr with
        state := .recovering, lastTested := none, fails := 0, lastResult := none, held := false, recTestStart := none,
        recFirstFailing := none, firstFailing := none, recharge := some (60 * gr.defn.rechargeHours),
        claim := some restoredClaim, dirty := true })))

/-- R156: a group record has been read; with no good configuration, or for a group without members, it is not applied. -/
def groupRead (g : Nat) (bytes : List Byte) (s : State) : State :=
  advanceLoader
    (if s.loader.figures.isSome ∧ (s.group g).weight ≠ 0 then restoreGroup g (GroupRecord.read bytes) s else s)

/-! ### Luminaire records (R157) and the end of LOADING -/

/-- R157: a luminaire's working record is restored, or replaced by the empty record. -/
def restoreLum (n : Nat) (record : Option LumRecord) (s : State) : State :=
  match record with
  | some r => s.modLum n (fun l => { l with record := r })
  | none =>
    let t := s.modLum n (fun l => { l with record := LumRecord.empty, dirty := true })
    if (t.groupOf n).isSome then raise .recordCrcError (lumDetail n) t else t

/-- R154: the figures are handed to their owners. -/
def handOver (f : Figures) (s : State) : State :=
  handOverEvents f
    { s with
      figures := f
      sup := { s.sup with address := some f.address }
      line := { s.line with draw := some (drawSeed f.address) }
      service := { s.service with authorised := f.authorised } }

/-- R120: at the end of each LOADING, TIME_INVALID is raised if time-valid is clear. -/
def reportTime (s : State) : State := if s.calendar.valid then s else raise .timeInvalid noDetail s

/-- R126, R91, R48, R128: the load ends with a good configuration. -/
def loadedGood (f : Figures) (s : State) : State :=
  let t := handOver f s
  firstListening (evalOverrun (reportTime (t.loader.restored.foldl restoreTest t)))

/-- R126, R127: the load ends with a bad configuration. -/
def loadedBad (s : State) : State :=
  reportTime (raise .configInvalid noDetail
    { s with
      calendar := { s.calendar with valid := false }
      sup := { s.sup with mode := .unconfigured, address := some 223 }
      line := { s.line with draw := some (drawSeed 223) } })

/-- R126: the load ends once the last luminaire record has been read. -/
def endLoading (s : State) : State :=
  match s.loader.figures with
  | some f => loadedGood f s
  | none => loadedBad s

/-- R157: a luminaire record has been read. -/
def lumRead (n : Nat) (bytes : List Byte) (s : State) : State :=
  let t := advanceLoader (if s.loader.figures.isSome then restoreLum n (LumRecord.read bytes) s else s)
  if t.loader.next = .done then endLoading t else t

/-- A read of the loader's: the memory answers, and `f` takes the bytes. -/
def loaderRead (base len : Nat) (answer : MemAnswer) (f : List Byte → State → State) (s : State) : State :=
  f (s.mem.nvm.answer base len answer).2 (s.setNvm (s.mem.nvm.answer base len answer).1)

end Sys2Proof.Machine
end

