-- ==== Sys2Proof/Machine/ResetSteps.lean ====
section
/-! DEFINITION. The meanings of POWER_ON_RESET, RESET_N, RESTART_TAKEN, POWER_LOSS, OSCILLATOR_STOP, CONFIG_BLOCK_READ,
GROUP_RECORD_READ and LUMINAIRE_RECORD_READ. -/

namespace Sys2Proof.Machine

/-- R126: power-on reset, with or without the supply before it. -/
def execPowerOnReset (s : State) : Result := done s (initialise 0 s)

/-- R126, R178: assertion of RESET_N. -/
def execResetN (s : State) : Result := live s (initialise 0)

/-- R178: the pending restart is due: its REPLY has left the queue, or its 2 s have passed. -/
def State.restartDue (s : State) : Bool := s.service.restart.isSome && (s.service.replyGone || expired s.service.restart)

/-- R178: the restart is taken; the isolation counter is kept (R125). -/
def execRestartTaken (s : State) : Result :=
  live s (fun s => if s.restartDue then initialise s.sup.isolations s else s)

/-- R86, POWER_LOSS: the main supply is lost. -/
def execPowerLoss (s : State) : Result := live s losePower

/-- R119: the crystal stops, whether or not the main supply is present. -/
def execOscillatorStop (s : State) : Result := done s { s with calendar := { s.calendar with oscStop := true } }

/-- Whether the loader, in LOADING, waits for this read. -/
def State.loads (s : State) (step : LoadStep) : Bool := decide (s.sup.mode = .loading) && decide (s.loader.next = step)

/-- R154: the configuration block read completes. -/
def execConfigBlockRead (answer : MemAnswer) (s : State) : Result :=
  live s (fun s => if s.loads .config then loaderRead 0 512 answer configRead s else s)

/-- R156: a group record read completes. -/
def execGroupRecordRead (answer : MemAnswer) (s : State) (ms : Nat := 0) : Result :=
  live s (fun s =>
    match s.loader.next with
    | .groupRecord g =>
      if s.sup.mode = .loading then loaderRead (groupOffset g) 32 answer (groupRead g) (s.atMs ms) else s
    | _ => s)

/-- R157, R126: a luminaire record read completes, and with the last one the load. -/
def execLuminaireRecordRead (answer : MemAnswer) (ms : Nat) (s : State) : Result :=
  live s (fun s =>
    match s.loader.next with
    | .lumRecord n =>
      if s.sup.mode = .loading then loaderRead (lumOffset n) 32 answer (lumRead n) (s.atMs ms) else s
    | _ => s)

end Sys2Proof.Machine
end

