-- ==== Sys2Proof/Machine/Pass.lean ====
section
/-! DEFINITION. The scheduling pass (R5 to R15). -/

namespace Sys2Proof.Machine

/-- R5, steps 1 and 2: the backoff countdown, and the age and urgency of a group in use. -/
def State.rank (s : State) (gr : Group) : Group :=
  if gr.inUse then { gr with backoff := gr.backoff - 1, age := s.ageNow gr, urgency := s.urgencyNow gr } else gr

/-- R9: the overdue latch of one group; it keeps its value while the age is not known. -/
def overdueGroup (s : State) (g : Nat) : State :=
  let gr := s.group g
  match gr.inUse, gr.age with
  | true, some a =>
    let t := s.modGroup g (fun gr => { gr with overdue := s.pastGrace gr a })
    if s.pastGrace gr a && !gr.overdue then raise .overdue (groupDetail g) t else t
  | _, _ => s

/-- R5, step 4: IDLE with urgency above 0 becomes DUE, DUE with urgency 0 becomes IDLE with its backoff at 0. -/
def Group.move (gr : Group) : Group :=
  match gr.state with
  | .idle => if gr.urgency = 0 then gr else { gr with state := .due }
  | .due => if gr.urgency = 0 then { gr with state := .idle, backoff := 0 } else gr
  | _ => gr

/-- R5, steps 1 to 4. The overdue latches are judged in ascending group number (log 37). -/
def rankGroups (s : State) : State :=
  let ranked := { s with groups := s.groups.map s.rank }
  let judged := groupNumbers.foldl overdueGroup ranked
  { judged with groups := judged.groups.map Group.move }

/-- R10: the admissible groups, ascending. -/
def State.admissible (s : State) : List Nat :=
  (s.groupsIn (fun st => decide (st = .due))).filter (fun g => (s.firstFailed g).isNone)

/-- R15: the highest urgency, and among equals the lowest number. -/
def State.mostUrgent (s : State) (gs : List Nat) : Option Nat :=
  gs.foldl
    (fun best g =>
      match best with
      | some h => if (s.group h).urgency < (s.group g).urgency then some g else some h
      | none => some g) none

/-- R14: the note of a group after a pass, but for the group that is then chosen. -/
def State.noteFor (s : State) (g : Nat) : Note :=
  match (s.group g).state with
  | .unused => (s.group g).note
  | .idle => .notDue
  | .due => (s.firstFailed g).getD .outranked
  | _ => .inClaim

/-- R14: every group's note, as the pass found it. -/
def writeNotes (s : State) : State :=
  { s with groups := s.groups.mapIdx (fun g gr => { gr with note := s.noteFor g }) }

/-- The claim record of a new proposal (R32). -/
def proposalRecord : ClaimRecord := { phase := .proposed, hold := some .awaiting, refresh := none }

/-- R15, R8, R32: the chosen group becomes PROPOSED and its CLAIM is queued; the own reduced weight has changed (R48). -/
def propose (g : Nat) (s : State) : State :=
  evalOverrun (queueClaim g (s.modGroup g (fun gr =>
    { gr with
      state := .proposed, claimUrgency := gr.urgency, note := .admitted, claim := some proposalRecord })))

/-- R5: the scheduling pass. -/
def schedulePass (s : State) : State :=
  let t := rankGroups s
  let u := writeNotes t
  match t.mostUrgent t.admissible with
  | some g => propose g u
  | none => u

end Sys2Proof.Machine
end

