-- ==== Sys2Proof/Machine/TimeSteps.lean ====
section
/-! DEFINITION. The meanings of the steps that the clocks make: TICK_SECOND, MINUTE_TICK, SCHEDULING_PASS, CALENDAR_ADVANCE, and
the expiries of the scheduler's and the supervisor's countdowns. -/

namespace Sys2Proof.Machine

/-! ### The tick second (R111) -/

/-- R111: the tick's count stops at its largest value; every sixtieth tick second is a minute tick, and in a configured
mode a scheduling pass too (R5). -/
def Clock.tick (c : Clock) (passes : Bool) : Clock :=
  { seconds := min 4294967295 (c.seconds + 1)
    ms := 0
    secondOfMinute := (c.secondOfMinute + 1) % 60
    minuteDue := c.minuteDue || decide (c.secondOfMinute = 59)
    passDue := c.passDue || (decide (c.secondOfMinute = 59) && passes) }

/-- R26: one tick second at a claim record: a running hold advances to 30 s, a refresh countdown falls. -/
def ClaimRecord.tick (c : ClaimRecord) : ClaimRecord :=
  { c with
    hold :=
      (match c.hold with
       | some (.running e) => some (.running (min 30 (e + 1)))
       | h => h)
    refresh := countDown c.refresh }

def Group.tick (gr : Group) : Group := { gr with claim := gr.claim.map ClaimRecord.tick }

/-- R129 to R131, R135: one tick second at the supervisor's countdowns and timers. -/
def Supervisor.tick (u : Supervisor) (fallbackLimit : Nat) : Supervisor :=
  { u with
    listen := if u.mode = .listening then countDown u.listen else u.listen
    silence := if u.mode.configured then countDown u.silence else u.silence
    clear := if u.mode = .coordinating then countDown u.clear else u.clear
    fallback :=
      if u.mode = .isolated ∧ u.reason = .silence then u.fallback.map (fun t => min fallbackLimit (t + 1))
      else u.fallback }

/-- R114: the outage timer counts while the validated state is OFF. -/
def Inputs.tick (i : Inputs) : Inputs :=
  { i with outageTimer := if i.mains = .off then min 3932100 (i.outageTimer + 1) else i.outageTimer }

/-- R119: the latch is looked at; found set, TIME_INVALID is raised. -/
def checkLatchAtTick (s : State) : State :=
  if s.calendar.oscStop then raise .timeInvalid noDetail { s with calendar := s.calendar.checkLatch } else s

/-- R111: everything that counts tick seconds advances by one. -/
def tickAll (s : State) : State :=
  { s with
    clock := s.clock.tick s.sup.mode.configured
    inputs := s.inputs.tick
    sup := s.sup.tick s.fallbackSeconds
    groups := s.groups.map Group.tick
    view := s.view.map Entry.older
    overflow := countDown s.overflow
    line := { s.line with cut := countDown s.line.cut }
    service := { s.service with restart := countDown s.service.restart } }

def execTickSecond (s : State) : Result := live s (fun s => checkLatchAtTick (tickAll s))

/-! ### The minute tick (R111) -/

/-- R87: one minute tick at a recharge countdown. -/
def Group.minute (gr : Group) : Group :=
  match gr.state, gr.recharge with
  | .recovering, some k =>
    { gr with
      recharge := some (k - 1)
      rechargeDue := gr.rechargeDue || decide (k ≤ 1)
      dirty := gr.dirty || (decide (1 < k) && decide ((k - 1) % 60 = 0)) }
  | _, _ => gr

/-- R116, R118: one minute tick at the outage hold and the inhibit stuck timer. -/
def Inputs.minute (i : Inputs) : Inputs :=
  { i with
    outageHold := if i.mains = .on then i.outageHold - 1 else i.outageHold
    stuck := if i.inhibit = .active then min 10080 (i.stuck + 1) else i.stuck
    stuckDue := i.stuckDue || (decide (i.inhibit = .active) && decide (i.stuck = 10079)) }

/-- R31, R56, R87, R104, R116, R118: everything that counts minute ticks. -/
def minuteAll (s : State) : State :=
  { s with
    clock := { s.clock with minuteDue := false }
    beacon := if s.sup.mode.configured then countDown s.beacon else s.beacon
    loop := { s.loop with sweepCountdown := countDown s.loop.sweepCountdown }
    groups :=
      if s.inputs.mains = .on ∧ s.sup.mode ≠ .loading then s.groups.map Group.minute else s.groups
    inputs := s.inputs.minute
    view := s.view.map Entry.minute }

def execMinuteTick (s : State) : Result := live s (fun s => if s.clock.minuteDue then minuteAll s else s)

/-! ### The scheduling pass and the backoff -/

/-- R5: the pass of the present minute tick, in a mode that makes passes. -/
def execSchedulingPass (s : State) : Result :=
  live s (fun s =>
    if s.clock.passDue ∧ s.sup.mode.configured = true then
      schedulePass { s with clock := { s.clock with passDue := false } }
    else s)

/-- R16, R5: the countdown has reached 0 within the scheduling pass that decremented it, and that pass has already judged
the group; nothing more happens. -/
def execBackoffExpiry (_g : Nat) (s : State) : Result := live s (fun s => s)

/-! ### The calendar (R119) -/

/-- R119: the crystal advances the counts; the minute count stops at FFFFFFFEh and the seconds then at 59. -/
def Calendar.advance (c : Calendar) : Calendar :=
  if c.seconds < 59 then { c with seconds := c.seconds + 1 }
  else if c.minutes < 0xFFFFFFFE then { c with seconds := 0, minutes := c.minutes + 1 }
  else { c with seconds := 59 }

/-- The calendar runs with or without the main supply. -/
def execCalendarAdvance (s : State) : Result := done s { s with calendar := s.calendar.advance }

/-! ### Expiries of the supervisor's countdowns -/

/-- R129: the listen countdown has reached 0. -/
def execListenExpiry (s : State) : Result :=
  live s (fun s => if s.sup.mode = .listening ∧ expired s.sup.listen = true then enterCoordinating s else s)

/-- R130: the clear timer has reached 0. -/
def execClearTimerExpiry (s : State) : Result :=
  live s (fun s =>
    if s.sup.mode = .coordinating ∧ expired s.sup.clear = true then
      s.setSup { s.sup with isolations := 0, clear := none }
    else s)

/-- R131: the silence countdown has reached 0. -/
def execSilenceExpiry (s : State) (idle : Bool := false) : Result :=
  live s (fun s =>
    if (s.sup.mode = .listening ∨ s.sup.mode = .coordinating) ∧ expired s.sup.silence = true then
      enterIsolatedSilence (drawnWhileIdle idle s)
    else s)

/-- R135: the fallback test at a tick second in ISOLATED with reason SILENCE. -/
def execFallbackExpiry (s : State) : Result :=
  live s (fun s => if s.silent && s.fallsBack then enterStandalone s else s)

end Sys2Proof.Machine
end

