-- ==== Sys2Proof/Machine/Dispatch.lean ====
section
/-! DEFINITION. The one arm per command: each calls its meaning. -/

namespace Sys2Proof.Machine

def exec (i : Instr) (s : State) : Host.Outcome State Fault Refusal :=
  match i with
  | .powerOnReset => Sys2Proof.Machine.execPowerOnReset s
  | .resetN => Sys2Proof.Machine.execResetN s
  | .oscillatorStop => Sys2Proof.Machine.execOscillatorStop s
  | .configBlockRead answer => Sys2Proof.Machine.execConfigBlockRead answer s
  | .groupRecordRead answer ms => Sys2Proof.Machine.execGroupRecordRead answer s ms
  | .luminaireRecordRead answer ms => Sys2Proof.Machine.execLuminaireRecordRead answer ms s
  | .tickSecond => Sys2Proof.Machine.execTickSecond s
  | .minuteTick => Sys2Proof.Machine.execMinuteTick s
  | .schedulingPass => Sys2Proof.Machine.execSchedulingPass s
  | .backoffExpiry g => Sys2Proof.Machine.execBackoffExpiry g s
  | .holdExpiry g ms => Sys2Proof.Machine.execHoldExpiry g ms s
  | .pollRound g ms => Sys2Proof.Machine.execPollRound g ms s
  | .endInstant n ms => Sys2Proof.Machine.execEndInstant n ms s
  | .refreshExpiry g ms => Sys2Proof.Machine.execRefreshExpiry g ms s
  | .rechargeComplete g idle => Sys2Proof.Machine.execRechargeComplete g s idle
  | .beaconCountdownExpiry => Sys2Proof.Machine.execBeaconCountdownExpiry s
  | .claimReceived src dst payload ms => Sys2Proof.Machine.execClaimReceived src dst payload ms s
  | .releaseReceived src dst payload ms => Sys2Proof.Machine.execReleaseReceived src dst payload ms s
  | .beaconReceived src dst payload ms => Sys2Proof.Machine.execBeaconReceived src dst payload ms s
  | .otherFrameReceived src dst kind ms => Sys2Proof.Machine.execOtherFrameReceived src dst kind ms s
  | .rxFrameBroken how chars => Sys2Proof.Machine.execRxFrameBroken how chars s
  | .entryAgeOut => Sys2Proof.Machine.execEntryAgeOut s
  | .peerRechargeEnd => Sys2Proof.Machine.execPeerRechargeEnd s
  | .overflowHoldExpiry => Sys2Proof.Machine.execOverflowHoldExpiry s
  | .listenExpiry => Sys2Proof.Machine.execListenExpiry s
  | .clearTimerExpiry => Sys2Proof.Machine.execClearTimerExpiry s
  | .silenceExpiry idle => Sys2Proof.Machine.execSilenceExpiry s idle
  | .fallbackExpiry => Sys2Proof.Machine.execFallbackExpiry s
  | .driverCut bits ms => Sys2Proof.Machine.execDriverCut bits ms s
  | .driverReenable => Sys2Proof.Machine.execDriverReenable s
  | .lineHeld bits => Sys2Proof.Machine.execLineHeld bits s
  | .lineHeldCleared bits => Sys2Proof.Machine.execLineHeldCleared bits s
  | .txAttemptStart => Sys2Proof.Machine.execTxAttemptStart s
  | .txDefer => Sys2Proof.Machine.execTxDefer s
  | .txComplete => Sys2Proof.Machine.execTxComplete s
  | .txCollision => Sys2Proof.Machine.execTxCollision s
  | .branchGrant b => Sys2Proof.Machine.execBranchGrant b s
  | .loopRetry b chars => Sys2Proof.Machine.execLoopRetry b chars s
  | .loopTransactionComplete b chars ms => Sys2Proof.Machine.execLoopTransactionComplete b chars ms s
  | .sweepStart => Sys2Proof.Machine.execSweepStart s
  | .msenseChange high ms => Sys2Proof.Machine.execMsenseChange high ms s
  | .validatedOff ms idle => Sys2Proof.Machine.execValidatedOff ms s idle
  | .validatedOn ms => Sys2Proof.Machine.execValidatedOn ms s
  | .outageHoldExpiry => Sys2Proof.Machine.execOutageHoldExpiry s
  | .inhibitChange high ms => Sys2Proof.Machine.execInhibitChange high ms s
  | .inhibitValidated ms => Sys2Proof.Machine.execInhibitValidated ms s
  | .inhibitStuck => Sys2Proof.Machine.execInhibitStuck s
  | .skeyChange high ms => Sys2Proof.Machine.execSkeyChange high ms s
  | .skeyValidated ms => Sys2Proof.Machine.execSkeyValidated ms s
  | .calendarAdvance => Sys2Proof.Machine.execCalendarAdvance s
  | .stationStatus src dst args ms => Sys2Proof.Machine.execStationStatus src dst args s ms
  | .group src dst args ms => Sys2Proof.Machine.execGroup src dst args ms s
  | .luminaire src dst args ms => Sys2Proof.Machine.execLuminaire src dst args ms s
  | .history src dst args ms => Sys2Proof.Machine.execHistory src dst args s ms
  | .peerEntry src dst args ms => Sys2Proof.Machine.execPeerEntry src dst args s ms
  | .eventStatus src dst args ms => Sys2Proof.Machine.execEventStatus src dst args s ms
  | .counters src dst args ms => Sys2Proof.Machine.execCounters src dst args s ms
  | .setTime src dst args ms => Sys2Proof.Machine.execSetTime src dst args s ms
  | .hold src dst args ms => Sys2Proof.Machine.execHold src dst args s ms
  | .resume src dst args ms => Sys2Proof.Machine.execResume src dst args s ms
  | .force src dst args ms => Sys2Proof.Machine.execForce src dst args s ms
  | .cancel src dst args ms => Sys2Proof.Machine.execCancel src dst args ms s
  | .clearEvents src dst args ms => Sys2Proof.Machine.execClearEvents src dst args s ms
  | .clearIsolation src dst args ms => Sys2Proof.Machine.execClearIsolation src dst args s ms
  | .probe src dst args ms => Sys2Proof.Machine.execProbe src dst args s ms
  | .restart src dst args ms => Sys2Proof.Machine.execRestart src dst args s ms
  | .restartTaken => Sys2Proof.Machine.execRestartTaken s
  | .memoryGrant => Sys2Proof.Machine.execMemoryGrant s
  | .flushComplete => Sys2Proof.Machine.execFlushComplete s
  | .historyLineWritten => Sys2Proof.Machine.execHistoryLineWritten s
  | .fillComplete answer => Sys2Proof.Machine.execFillComplete answer s
  | .reportOffer => Sys2Proof.Machine.execReportOffer s
  | .rxFrameDiscarded chars => Sys2Proof.Machine.execRxFrameDiscarded chars s
  | .unknownServiceCode src dst kind payload ms => Sys2Proof.Machine.execUnknownServiceCode src dst kind payload s ms
  | .powerLoss => Sys2Proof.Machine.execPowerLoss s

end Sys2Proof.Machine
end

