-- ==== Sys2Proof/Safety.lean ====
section
/-! DEFINITION. The terms the statements use: what a command leaves alone, and the laws of the chapters that hold of the
state at every moment. -/

namespace Sys2Proof.Machine

/-! ### What a command leaves alone -/

/-- The parts of the state, one for each block or table. The lamps' start stamps stand apart: R172 moves them at every
step alike. -/
inductive Part where
  | powered | clock | calendar | pins | inputs | sup | figures | loader | groups | lums | beacon | overrun | view
  | overflow | loop | line | mem | events | service | free | pending
  deriving DecidableEq, Repr

/-- A part is the same in two states. -/
def Part.same (p : Part) (s t : State) : Prop :=
  match p with
  | .powered => t.powered = s.powered
  | .clock => t.clock = s.clock
  | .calendar => t.calendar = s.calendar
  | .pins => t.pins = s.pins
  | .inputs => t.inputs = s.inputs
  | .sup => t.sup = s.sup
  | .figures => t.figures = s.figures
  | .loader => t.loader = s.loader
  | .groups => t.groups = s.groups
  | .lums => t.lums = s.lums
  | .beacon => t.beacon = s.beacon
  | .overrun => t.overrun = s.overrun
  | .view => t.view = s.view
  | .overflow => t.overflow = s.overflow
  | .loop => t.loop = s.loop
  | .line => t.line = s.line
  | .mem => t.mem = s.mem
  | .events => t.events = s.events
  | .service => t.service = s.service
  | .free => t.free = s.free
  | .pending => t.pending = s.pending

/-- Every part but those named is unchanged. -/
def Keeps (touched : List Part) (s t : State) : Prop := ∀ p : Part, p ∉ touched → p.same s t

/-- Every group but `g` is unchanged. -/
def OtherGroups (g : Nat) (s t : State) : Prop := ∀ h, h ≠ g → t.group h = s.group h

/-- Every luminaire but `n` is unchanged. -/
def OtherLums (n : Nat) (s t : State) : Prop := ∀ m, m ≠ n → t.lum m = s.lum m

/-- R178: a frame is the REPLY that answers a RESTART. -/
def TxFrame.ofRestart : TxFrame → Bool
  | .reply r => r.restart
  | _ => false

/-- How many REPLYs that answer a RESTART the line holds: current, waiting or in the backlog. -/
def Line.restarts (l : Line) : Nat :=
  (l.waiting ++ l.backlog ++ (l.current.map Current.frame).toList).countP TxFrame.ofRestart

/-- R178: the mark of a RESTART's REPLY that has left the line, after a step from `s` to `t` that queues none: set exactly
where it was set before or one has left. -/
def State.restartGone (s t : State) : Bool := s.service.replyGone || decide (t.line.restarts < s.line.restarts)

/-- R178: of the service responder nothing has changed but that mark. -/
def RestartNoted (s t : State) : Prop := t.service = { s.service with replyGone := s.restartGone t }

/-- Besides REPORT_OVERRUN no event has occurred but those named, and the destinations stay. -/
def EventsKept (occurred : List Event) (s t : State) : Prop :=
  t.events.destinations = s.events.destinations ∧
    ∀ e : Event, e ∉ occurred → e ≠ .reportOverrun → t.events.cell e.number = s.events.cell e.number

/-! ### Laws of the chapters -/

/-- The tables have their entries (R1, R68, R167). -/
structure State.TablesWhole (s : State) : Prop where
  groups : s.groups.length = 24
  lums : s.lums.length = 128
  cells : s.events.cells.length = 26

/-- R50: at most 48 entries, no two of one key, none of the station's own address; and none at all in LOADING. -/
structure State.ViewLaw (s : State) : Prop where
  size : s.view.length ≤ 48
  keys : s.view.Pairwise (fun e f => ¬ (e.station = f.station ∧ e.group = f.group))
  foreign : ∀ e ∈ s.view, s.sup.address ≠ some e.station
  loading : s.sup.mode = .loading → s.view = []

/-- R141, R147: the queue holds at most 12 frames, and is full while the backlog is not empty. -/
structure State.QueueLaw (s : State) : Prop where
  size : s.line.size ≤ 12
  backlog : s.line.backlog ≠ [] → s.line.size = 12

/-- R125: the isolation reason is not none exactly while the mode is ISOLATED. -/
def State.ReasonLaw (s : State) : Prop := s.sup.mode = .isolated ↔ s.sup.reason ≠ .noReason

/-- The state that a claim's phase names. -/
def Phase.state : Phase → GState
  | .proposed => .proposed
  | .testing => .testing
  | .recovering => .recovering

/-- R26: a group has a claim record exactly while it is in the own reduced set, and the record's phase equals its state. -/
def State.ClaimLaw (s : State) : Prop :=
  ∀ g, match (s.group g).claim with
    | some c => (s.group g).state = c.phase.state
    | none => (s.group g).state.reduced = false

/-- R84, R114: no group is PROPOSED or TESTING unless the validated mains state is ON. -/
def State.MainsLaw (s : State) : Prop :=
  ∀ g, g < 24 → (s.group g).state = .proposed ∨ (s.group g).state = .testing → s.inputs.mains = .on

/-- R32, R39: no group is PROPOSED unless the mode is COORDINATING or STANDALONE. -/
def State.ProposalLaw (s : State) : Prop :=
  ∀ g, g < 24 → (s.group g).state = .proposed → s.sup.mode = .coordinating ∨ s.sup.mode = .standalone

/-- R10: at most two own groups are PROPOSED or TESTING. -/
def State.PairLaw (s : State) : Prop :=
  (s.groupsIn (fun st => decide (st = .proposed ∨ st = .testing))).length ≤ 2

/-- R100: a luminaire is ABSENT exactly when its miss count is 3. -/
def State.PresenceLaw (s : State) : Prop := ∀ n, (s.lum n).presence = .absent ↔ (s.lum n).misses = 3

/-- R164: the laws of the history cache, the fill-pending set and the fill in flight. -/
structure State.HistoryLaw (s : State) : Prop where
  cacheSize : s.mem.cache.length ≤ 8
  oneEach : s.mem.cache.Pairwise (fun c d => c.lum ≠ d.lum)
  noLinePending : ∀ c ∈ s.mem.cache, ∀ l ∈ s.mem.appender, l.lum ≠ c.lum
  notPending : ∀ c ∈ s.mem.cache, c.lum ∉ s.mem.fillPending
  pendingSize : s.mem.fillPending.length ≤ 4
  pendingOnce : s.mem.fillPending.Nodup
  fillPends : ∀ n arrived, s.mem.txn = some (.fill n arrived) → n ∈ s.mem.fillPending
  fillClear : ∀ n, s.mem.txn = some (.fill n false) → ∀ l ∈ s.mem.appender, l.lum ≠ n

/-- The counts that stop at their largest value, and the lists of bounded length (R1, R6, R7, R16, R21, R55, R58, R100,
R101, R111, R113 to R116, R118, R119, R134, R143, R144, R161, R169). An entry may stand at age 300 (log 42). -/
structure State.BoundsLaw (s : State) : Prop where
  tick : s.clock.seconds ≤ 4294967295 ∧ s.clock.ms ≤ 999 ∧ s.clock.secondOfMinute ≤ 59
  calendar : s.calendar.minutes ≤ 0xFFFFFFFE ∧ s.calendar.seconds ≤ 59
  counters : s.line.crcErrors ≤ 255 ∧ s.line.clashes ≤ 255 ∧ s.inputs.glitches ≤ 255 ∧ s.sup.isolations ≤ 15
  outage : s.inputs.outageTimer ≤ 3932100 ∧ s.inputs.lastOutage ≤ 65535 ∧ s.inputs.outageHold ≤ 2880
  stuck : s.inputs.stuck ≤ 10080
  ranks : ∀ g, (s.group g).fails ≤ 7 ∧ (s.group g).urgency ≤ 1023 ∧ (s.group g).claimUrgency ≤ 1023 ∧
    (s.group g).backoff ≤ 24 ∧ ∀ a, (s.group g).age = some a → a ≤ 4095
  recharges : ∀ g, (s.group g).defn.rechargeHours ≤ 48 ∧ ∀ k, (s.group g).recharge = some k → k ≤ 2880
  entries : ∀ e ∈ s.view, e.age ≤ 300 ∧ e.weight ≤ 128
  misses : ∀ n, (s.lum n).misses ≤ 3
  windows : s.loop.a.window.length ≤ 8 ∧ s.loop.b.window.length ≤ 8
  lists : s.mem.appender.length ≤ 256 ∧ s.events.reports.length ≤ 8

/-! ### Conditions of the chapters, in the chapters' own words -/

/-- R12: the luminaire is not ABSENT, and lies on a branch that is not DOWN. -/
def State.CanTest (s : State) (n : Nat) : Prop :=
  (s.lum n).presence ≠ .absent ∧ ∃ b, (s.lum n).branch = some b ∧ (s.branch b).down = false

/-- R11: every hour of the week that the group's test could occupy is permitted. -/
def State.HoursOpen (s : State) (g : Nat) : Prop :=
  ∀ k, s.calendar.minutes / 60 ≤ k → k ≤ (s.calendar.minutes + (s.group g).defn.minutes + 15) / 60 →
    s.figures.window.getD (k % 168) false = true

/-- R10, with R137 for STANDALONE: the conditions on which a DUE group is admissible. -/
structure State.Admissible (s : State) (g : Nat) : Prop where
  due : (s.group g).state = .due
  mode :
    (s.sup.mode = .coordinating ∧ s.ownSet.length < s.figures.reducedLimit ∧
      (s.groupsIn (fun st => decide (st = .proposed ∨ st = .testing))).length < 2 ∧
      s.viewLoad + s.ownWeight + (s.group g).weight ≤ s.figures.cap) ∨
    (s.sup.mode = .standalone ∧ (∃ a, (s.group g).age = some a ∧ (s.group g).defn.interval + s.figures.grace ≤ a) ∧
      s.ownSet = [] ∧ s.ownWeight + (s.group g).weight ≤ s.figures.cap)
  time : s.calendar.valid = true
  mains : s.inputs.mains = .on
  outage : s.inputs.outageHold = 0
  inhibit : s.inputs.inhibit = .inactive
  held : (s.group g).held = false
  backoff : (s.group g).backoff = 0
  window : s.HoursOpen g
  member : ∃ n ∈ (s.group g).defn.members, s.CanTest n
  own : ∀ h ∈ s.ownSet,
    (s.group g).defn.conflicts (s.group h).defn.home (s.group h).defn.neighbours = false
  peer : ∀ e ∈ s.view, g ∉ e.mask
  overflow : s.overflow = none

/-- R10, with R137 for STANDALONE: the conditions of admission in the order in which they are evaluated, each with its
note. -/
def State.admissionRules (s : State) (g : Nat) : List (Prop × Note) :=
  [ (s.sup.mode = .coordinating ∨ (s.sup.mode = .standalone ∧
      ∃ a, (s.group g).age = some a ∧ (s.group g).defn.interval + s.figures.grace ≤ a), .mode),
    (s.calendar.valid = true, .time),
    (s.inputs.mains = .on, .mains),
    (s.inputs.outageHold = 0, .outage),
    (s.inputs.inhibit = .inactive, .inhibit),
    ((s.group g).held = false, .held),
    ((s.group g).backoff = 0, .backoff),
    (s.HoursOpen g, .window),
    (∃ n ∈ (s.group g).defn.members, s.CanTest n, .noMember),
    ((s.sup.mode = .standalone → s.ownSet = []) ∧
      (s.sup.mode ≠ .standalone →
        s.ownSet.length < s.figures.reducedLimit ∧
          (s.groupsIn (fun st => decide (st = .proposed ∨ st = .testing))).length < 2), .setFull),
    (∀ h ∈ s.ownSet, (s.group g).defn.conflicts (s.group h).defn.home (s.group h).defn.neighbours = false, .conflictOwn),
    (∀ e ∈ s.view, g ∉ e.mask, .conflictPeer),
    (s.overflow = none, .overflow),
    ((s.sup.mode = .standalone → s.ownWeight + (s.group g).weight ≤ s.figures.cap) ∧
      (s.sup.mode ≠ .standalone → s.viewLoad + s.ownWeight + (s.group g).weight ≤ s.figures.cap), .load) ]

/-- R40: the checks at the expiry of the hold of group `g`. -/
structure State.HoldMayTest (s : State) (g : Nat) : Prop where
  mode : s.sup.mode = .coordinating ∨ s.sup.mode = .standalone
  mains : s.inputs.mains = .on
  outage : s.inputs.outageHold = 0
  inhibit : s.inputs.inhibit = .inactive
  window : s.HoursOpen g
  member : ∃ n ∈ (s.group g).defn.members, s.CanTest n
  peer : ∀ e ∈ s.view, g ∈ e.mask → e.full ≠ none ∧ e.phase = .proposed

/-- R80: the result of a test, from the members' test states. -/
def ResultOf (tests : List TestState) (r : GResult) : Prop :=
  let passed := TestState.passed ∈ tests
  let allPassed := ∀ st ∈ tests, st ≠ .excluded → st = .passed
  let early := TestState.failedEarly ∈ tests
  (r = .pass ∧ passed ∧ allPassed) ∨ (r = .part ∧ passed ∧ ¬ allPassed) ∨ (r = .fail ∧ ¬ passed ∧ early) ∨
    (r = .noResponse ∧ ¬ passed ∧ ¬ early)

/-- R83: the recharge after a test of group `gr` that ended `e` whole minutes in. -/
def Group.RechargeAfter (gr : Group) (e : Nat) : Nat :=
  min (60 * gr.defn.rechargeHours)
    (max 60 ⌈(60 * gr.defn.rechargeHours * e : ℚ) / (gr.defn.minutes : ℚ)⌉₊)

/-- R33, R16: group `g` has been withdrawn: DUE, without a claim, with its backoff, and otherwise as it was. -/
def Withdrawn (g : Nat) (s t : State) : Prop :=
  t.group g =
    { s.group g with
      state := .due, claim := none,
      backoff := 2 + (1023 - (s.group g).claimUrgency) / 64 + s.figures.address % 8 }

/-- A frame is held for transmission, in the queue or in the backlog. -/
def Waits (f : TxFrame) (t : State) : Prop := f ∈ t.line.waiting ∨ f ∈ t.line.backlog

/-- R146: the waiting frames after a protocol frame is offered to a queue with room: it takes the place of the one it merges
with, a CLAIM of the same group or a RELEASE of the same group, or joins the end. -/
def joined (f : TxFrame) (waiting : List TxFrame) : List TxFrame :=
  if waiting.any f.mergesWith = true then waiting.map (fun w => if f.mergesWith w = true then f else w)
  else waiting ++ [f]

/-- R146, R147: a CLAIM or RELEASE has been offered to line `l`: it is held, and a line with room and an empty backlog takes it
and is otherwise as it was. -/
def Offered (f : TxFrame) (l : Line) (t : State) : Prop :=
  Waits f t ∧ (l.size < 12 → l.backlog = [] → t.line = { l with waiting := joined f l.waiting })

/-- R33, R146, R148: what the withdrawal of a PROPOSED group with reason `r` leaves of a line whose queue has room and whose
backlog is empty: its PROPOSED CLAIM is gone, waiting or current, and its RELEASE waits. An access that waited for a slot with
that CLAIM, or with nothing else in the queue, begins anew (log 40). -/
def Line.afterWithdrawal (l : Line) (g : Nat) (r : Reason) : Line :=
  let left := l.waiting.filter (fun f => !f.proposalOf g)
  let dropped := l.current.any (fun c => c.frame.proposalOf g)
  { l with
    waiting := joined (.release g r) left
    current := if dropped = true then none else l.current
    slot := if dropped = true ∨ (left = [] ∧ l.current = none) then none else l.slot }

/-- R89: the history lines that the end of the test of group `g` offers, in the order of its member list: one for each member
that has a result. `s` is the state before the end and `t` the one after. -/
def linesOf (g : Nat) (s t : State) : List HistLine :=
  (s.group g).defn.members.filterMap (fun n =>
    (t.lum n).test.result.map (fun r =>
      { lum := n, time := ((s.group g).testStart.map TestStart.minute).getD 0, group := g, result := r,
        achieved := (t.lum n).achieved, volts := ((t.lum n).lastGood.map GoodReply.volts).getD 0#8 }))

/-- R161, R164: what the offer of history lines leaves. Those that the appender list has room for join its end, their
luminaires' cache entries become invalid, and a fill in flight of such a luminaire is marked; the others are lost with
RECORD_CRC_ERROR. Nothing else of the memory controller changes. -/
structure HistoryOffered (lines : List HistLine) (s t : State) : Prop where
  memory :
    let taken := lines.take (256 - s.mem.appender.length)
    t.mem =
      { s.mem with
        appender := s.mem.appender ++ taken
        cache := s.mem.cache.filter (fun c => taken.all (fun l => decide (l.lum ≠ c.lum)))
        txn :=
          s.mem.txn.map (fun x =>
            match x with
            | .fill n arrived => .fill n (arrived || taken.any (fun l => decide (l.lum = n)))
            | x => x) }
  lost : s.events.cells.length = 26 → lines ≠ [] → 256 < s.mem.appender.length + lines.length →
    (t.events.cell Event.recordCrcError.number).raw = true

/-- R168: event `e` has occurred with detail `d`: its raw status and detail, and its status where it is unmasked. -/
def Occurs (e : Event) (d : Detail) (s t : State) : Prop :=
  t.events.cell e.number =
    { s.events.cell e.number with
      raw := true, detail := d,
      status := (s.events.cell e.number).status || !(s.events.cell e.number).mask }

/-- R37: own group `h` is judged before `g`: it has the lower precedence. -/
def State.JudgedBefore (s : State) (h g : Nat) : Prop :=
  (s.group h).claimUrgency < (s.group g).claimUrgency ∨ ((s.group h).claimUrgency = (s.group g).claimUrgency ∧ g < h)

/-- R37: the view holds an entry that is not PROPOSED, or that has precedence over `g`; a placeholder always has (R25). -/
def State.Contested (s : State) (g : Nat) : Prop :=
  ∃ e ∈ s.view, e.phase ≠ .proposed ∨ e.full = none ∨
    ∃ f, e.full = some f ∧
      precedes f.urgency e.station e.group (s.group g).claimUrgency s.figures.address g = true

/-- R48: what one evaluation of the overrun latch leaves, after a change that led from `s` to `t`. The latch is set exactly
while the total exceeds the cap with an own group TESTING or RECOVERING, and LOAD_OVER occurs with the lowest such group when
it is newly set and at no other time. -/
structure Relatched (s t : State) : Prop where
  latch : t.overrun = true ↔
    (∃ g, g < 24 ∧ (t.group g).state.past = true) ∧ s.figures.cap < s.viewLoad + t.ownWeight
  raised : s.overrun = false → t.overrun = true → s.events.cells.length = 26 →
    ∀ g, g < 24 → (t.group g).state.past = true → (∀ h, h < g → (t.group h).state.past = false) →
      Occurs .loadOver (groupDetail g) s t
  quiet : s.overrun = true ∨ t.overrun = false → t.events.cell Event.loadOver.number = s.events.cell Event.loadOver.number

/-- R48: the overrun latch is left as it is, and LOAD_OVER has not occurred. -/
def Unlatched (s t : State) : Prop :=
  t.overrun = s.overrun ∧ t.events.cell Event.loadOver.number = s.events.cell Event.loadOver.number

/-- R48: what the evaluations leave where one moment withdraws every PROPOSED group, in ascending group number (log 19), with
one evaluation after each withdrawal (log 15). The total rises at none, so the latch can be newly set after the first alone;
it then follows the total that is left. With no PROPOSED group nothing is evaluated. -/
structure WithdrawnLatch (s t : State) : Prop where
  unchanged : (∀ g, g < 24 → (s.group g).state ≠ .proposed) → Unlatched s t
  changed : ∀ g, g < 24 → (s.group g).state = .proposed → (∀ h, h < g → (s.group h).state ≠ .proposed) →
    let runs := ∃ h, h < 24 ∧ (s.group h).state.past = true
    let first := s.viewLoad + s.ownWeight - (s.group g).weight
    (t.overrun = true ↔ runs ∧ s.figures.cap < s.viewLoad + t.ownWeight) ∧
    (s.overrun = false → s.figures.cap < first → s.events.cells.length = 26 →
      ∀ h, h < 24 → (s.group h).state.past = true → (∀ k, k < h → (s.group k).state.past = false) →
        Occurs .loadOver (groupDetail h) s t) ∧
    (s.overrun = true ∨ first ≤ s.figures.cap ∨ ¬ runs →
      t.events.cell Event.loadOver.number = s.events.cell Event.loadOver.number)

/-- R35, steps 2 and 3: what the load steps leave. Each PROPOSED group in turn, the lowest precedence first, is withdrawn
with reason WITHDRAWN while the total, less the weights already withdrawn, exceeds the cap and the group is contested (R37).
Then the overrun latch follows the total that is left (R48). No event but LOAD_OVER and REPORT_OVERRUN is touched, and the
CLAIMs past proposal and the RELEASEs that waited wait on (R146, R147). -/
structure LoadSteps (s t : State) : Prop where
  keeps : Keeps [.groups, .line, .events, .service, .overrun] s t
  service : RestartNoted s t
  others : ∀ g, (s.group g).state ≠ .proposed → t.group g = s.group g
  contest : ∀ g, g < 24 → (s.group g).state = .proposed → ∀ lost : List Nat, lost.Nodup →
    (∀ h, h ∈ lost ↔
      h < 24 ∧ (s.group h).state = .proposed ∧ s.JudgedBefore h g ∧ (t.group h).state = .due) →
    let exceeds := s.figures.cap < s.viewLoad + s.ownWeight - (lost.map (fun h => (s.group h).weight)).sum
    (exceeds ∧ s.Contested g → Withdrawn g s t ∧ Waits (.release g .withdrawn) t) ∧
    (¬ (exceeds ∧ s.Contested g) → t.group g = s.group g)
  latch : Relatched s t
  cells : ∀ e : Event, e ≠ .loadOver → e ≠ .reportOverrun → t.events.cell e.number = s.events.cell e.number
  claims : ∀ g b, b.phase ≠ .proposed → Waits (.claim g b) s → Waits (.claim g b) t
  releases : ∀ g, Waits (.release g .withdrawn) s → Waits (.release g .withdrawn) t

/-- The load steps made once for each of the views given, one after another: an entry's removal is reported as it is made
(R35, R63). -/
def LoadStepsFor : List (List Entry) → State → State → Prop
  | [], s, t => Keeps [] s t
  | v :: vs, s, t => ∃ u, LoadSteps { s with view := v } u ∧ LoadStepsFor vs u t

/-- R82, R84: what the early end of the test of TESTING group `g` with result `r` leaves of the group, its members and its
CLAIM; END is owed to the members under test exactly where `owed` (R84). The group is RECOVERING with the recharge of R83 and
keeps its dates (R21, R90); its claim record is RECOVERING with the refresh at 60 s, and the CLAIM with the new recharge waits
(R43). A member under test is ABORTED, no request of a member is left, and the working record of each member that has a result
is written (R89), where no other TESTING group has that member too. -/
structure EndsEarly (g : Nat) (r : GResult) (owed : Bool) (s t : State) : Prop where
  group : ∃ k,
    (∀ start, (s.group g).testStart = some start → 0 < (s.group g).defn.minutes →
      k = (s.group g).RechargeAfter ((t.now - start.tick) / 60000)) ∧
    t.group g =
      { s.group g with
        state := .recovering, lastResult := some r, fails := min 7 ((s.group g).fails + 1), dirty := true,
        claim := (s.group g).claim.map (fun _ => { phase := .recovering, hold := none, refresh := some 60 })
        testStart := none, round := none, recharge := some k, rechargeDue := false,
        recTestStart := some (((s.group g).testStart.map TestStart.minute).getD 0),
        recFirstFailing := (s.group g).firstFailing } ∧
    ((s.group g).claim ≠ none →
      Waits
        (.claim g
          { phase := .recovering, urgency := (s.group g).claimUrgency, weight := (s.group g).defn.members.length,
            remaining := k, home := (s.group g).defn.home, neighbours := (s.group g).defn.neighbours }) t)
  members : ∀ n ∈ (s.group g).defn.members,
    t.lum n =
      { s.lum n with
        test := if (s.lum n).test.live = true then .aborted else (s.lum n).test
        achieved :=
          if (s.lum n).test = .discharging then (t.now - (s.lum n).ownStart.getD t.now) / 60000
          else if (s.lum n).test = .pendingStart then 0
          else (s.lum n).achieved
        endOwed := (s.lum n).endOwed || ((s.lum n).test.live && owed)
        request := none, record := (t.lum n).record, dirty := (t.lum n).dirty }
  records : ∀ n ∈ (s.group g).defn.members,
    (∀ h, h ≠ g → (s.group h).state = .testing → n ∉ (s.group h).defn.members) →
    (∀ x, (t.lum n).test.result = some x →
      (t.lum n).dirty = true ∧
      (t.lum n).record =
        { (s.lum n).record with
          time := some (((s.group g).testStart.map TestStart.minute).getD 0), result := some x,
          achieved := (t.lum n).achieved, volts := ((s.lum n).lastGood.map GoodReply.volts).getD 0#8,
          faults := ((s.lum n).lastGood.map GoodReply.faults).getD 0#8 }) ∧
    ((t.lum n).test.result = none → (t.lum n).record = (s.lum n).record ∧ (t.lum n).dirty = (s.lum n).dirty)

/-- R80, R81: what the conclusion of the test of TESTING group `g` leaves, with no member under test any more. The result is
R80's; the group is RECOVERING with recharge 60H, its dates and counts follow the result (R21, R90), its claim record is
RECOVERING with the refresh at 60 s and its CLAIM waits (R43). No request of a member is left, each member that has a result
has it in its working record and a history line offered (R89), and GROUP_PASSED or GROUP_FAULTY has occurred. -/
structure Concludes (g : Nat) (u t : State) : Prop where
  keeps : Keeps [.groups, .lums, .mem, .line, .events, .service] u t
  service : RestartNoted u t
  others : OtherGroups g u t
  group : ∃ x, ResultOf ((u.group g).defn.members.map (fun n => (u.lum n).test)) x ∧
    (let minute := ((u.group g).testStart.map TestStart.minute).getD 0
     t.group g =
      { u.group g with
        state := .recovering, lastResult := some x, dirty := true,
        lastTested := if x = .noResponse then (u.group g).lastTested else some minute
        fails := if x = .noResponse then min 7 ((u.group g).fails + 1) else 0
        recharge := some (60 * (u.group g).defn.rechargeHours), rechargeDue := false,
        recTestStart := some minute, recFirstFailing := (u.group g).firstFailing, testStart := none, round := none,
        claim := (u.group g).claim.map (fun _ => { phase := .recovering, hold := none, refresh := some 60 }) }) ∧
    (u.events.cells.length = 26 → Occurs (if x = .pass then .groupPassed else .groupFaulty) (groupDetail g) u t) ∧
    ∀ e : Event, e ≠ (if x = .pass then .groupPassed else .groupFaulty) → e ≠ .recordCrcError → e ≠ .reportOverrun →
      t.events.cell e.number = u.events.cell e.number
  claim :
    let f : TxFrame :=
      .claim g
        { phase := .recovering, urgency := (u.group g).claimUrgency, weight := (u.group g).defn.members.length,
          remaining := 60 * (u.group g).defn.rechargeHours, home := (u.group g).defn.home,
          neighbours := (u.group g).defn.neighbours }
    ((u.group g).claim = none → t.line = u.line) ∧
    ((u.group g).claim ≠ none → Offered f u.line t)
  members : ∀ n ∈ (u.group g).defn.members,
    t.lum n = { u.lum n with request := none, record := (t.lum n).record, dirty := (t.lum n).dirty } ∧
    (∀ x, (u.lum n).test.result = some x →
      (t.lum n).dirty = true ∧
      (t.lum n).record =
        { (u.lum n).record with
          time := some (((u.group g).testStart.map TestStart.minute).getD 0), result := some x,
          achieved := (u.lum n).achieved, volts := ((u.lum n).lastGood.map GoodReply.volts).getD 0#8,
          faults := ((u.lum n).lastGood.map GoodReply.faults).getD 0#8 }) ∧
    ((u.lum n).test.result = none → (t.lum n).record = (u.lum n).record ∧ (t.lum n).dirty = (u.lum n).dirty)
  lums : ∀ n, n ∉ (u.group g).defn.members → t.lum n = u.lum n
  history : HistoryOffered (linesOf g u t) u t

/-- R71, R73 to R76, R80: the check that ends each of them. While a member is under test nothing more changes; with none left
the test of group `g` concludes. -/
def Checked (g : Nat) (u t : State) : Prop :=
  ((∃ n ∈ (u.group g).defn.members, (u.lum n).test.live = true) → Keeps [] u t) ∧
  ((∀ n ∈ (u.group g).defn.members, (u.lum n).test.live = false) → Concludes g u t)

/-! ### Frames received -/

/-- R28: a CLAIM payload is taken apart, or discarded. -/
structure ReadsClaim (p : List Byte) : Prop where
  taken :
    let k := min 6 (byteAt p 9)
    10 + 2 * k ≤ p.length → byteAt p 0 ≤ 0x17 → ∀ phase : Phase, phase.code.toNat = byteAt p 1 →
      ClaimFrame.read p =
        some
          { group := byteAt p 0, phase := phase, weight := max 1 (min 128 (byteAt p 4)),
            full :=
              { urgency := min 1023 (256 * byteAt p 2 + byteAt p 3)
                remaining := 256 * byteAt p 5 + byteAt p 6
                home := min 1023 (256 * byteAt p 7 + byteAt p 8)
                neighbours :=
                  (List.range k).map (fun i => min 1023 (256 * byteAt p (10 + 2 * i) + byteAt p (11 + 2 * i))) } }
  discarded :
    (p.length < 10 + 2 * min 6 (byteAt p 9) ∨ 0x17 < byteAt p 0 ∨ ∀ phase : Phase, phase.code.toNat ≠ byteAt p 1) →
      ClaimFrame.read p = none

/-- R28: a RELEASE payload is taken apart, or discarded. -/
structure ReadsRelease (p : List Byte) : Prop where
  taken : 2 ≤ p.length → byteAt p 0 ≤ 0x17 → (∃ r : Reason, r.code.toNat = byteAt p 1) →
    ReleaseFrame.read p = some { group := byteAt p 0 }
  discarded : (p.length < 2 ∨ 0x17 < byteAt p 0 ∨ ∀ r : Reason, r.code.toNat ≠ byteAt p 1) → ReleaseFrame.read p = none

/-- R28: a BEACON payload is taken apart, or discarded. -/
structure ReadsBeacon (p : List Byte) : Prop where
  taken :
    let j := min 4 (byteAt p 8)
    9 + 2 * j ≤ p.length → ∀ pairs : List (Nat × Phase),
      pairs.map (fun q => (q.1, q.2.code.toNat)) =
        (List.range j).map (fun i => (byteAt p (9 + 2 * i), byteAt p (10 + 2 * i))) →
      (∀ q ∈ pairs, q.1 ≤ 0x17) →
      BeaconFrame.read p =
        some
          { valid := decide (byteAt p 1 = 1)
            minutes := 16777216 * byteAt p 2 + 65536 * byteAt p 3 + 256 * byteAt p 4 + byteAt p 5
            weight := 256 * byteAt p 6 + byteAt p 7, claims := pairs }
  discarded :
    let j := min 4 (byteAt p 8)
    (p.length < 9 + 2 * j ∨
      ∃ i, i < j ∧ (0x17 < byteAt p (9 + 2 * i) ∨ ∀ phase : Phase, phase.code.toNat ≠ byteAt p (10 + 2 * i))) →
      BeaconFrame.read p = none

/-- The row of a QUERY or COMMAND frame from `src` to `dst` that ends at millisecond `ms`. -/
def CarriesService (src dst : Byte) (ms : Nat) (i : Instr) : Prop :=
  (∃ args : List Byte,
    i ∈ [Instr.stationStatus src dst args ms, Instr.group src dst args ms, Instr.luminaire src dst args ms,
      Instr.history src dst args ms, Instr.peerEntry src dst args ms, Instr.eventStatus src dst args ms,
      Instr.counters src dst args ms, Instr.setTime src dst args ms, Instr.hold src dst args ms,
      Instr.resume src dst args ms, Instr.force src dst args ms, Instr.cancel src dst args ms,
      Instr.clearEvents src dst args ms, Instr.clearIsolation src dst args ms, Instr.probe src dst args ms,
      Instr.restart src dst args ms]) ∨
  ∃ kind payload, knownCode kind payload = false ∧ i = Instr.unknownServiceCode src dst kind payload ms

/-- The row of a CLAIM, RELEASE or BEACON frame with this payload. -/
def CarriesProtocol (src dst : Byte) (payload : List Byte) (ms : Nat) (i : Instr) : Prop :=
  i ∈ [Instr.claimReceived src dst payload ms, Instr.releaseReceived src dst payload ms,
    Instr.beaconReceived src dst payload ms]

/-- The row of a CLAIM, RELEASE or BEACON frame whose payload R28 discards. -/
def CarriesDiscarded (src dst : Byte) (ms : Nat) (i : Instr) : Prop :=
  ∃ payload,
    (i = Instr.claimReceived src dst payload ms ∧ ClaimFrame.read payload = none) ∨
    (i = Instr.releaseReceived src dst payload ms ∧ ReleaseFrame.read payload = none) ∨
    (i = Instr.beaconReceived src dst payload ms ∧ BeaconFrame.read payload = none)

/-- The row of a frame of another kind than CLAIM, RELEASE and BEACON. -/
def CarriesOther (src dst kind : Byte) (ms : Nat) (i : Instr) : Prop :=
  i = Instr.otherFrameReceived src dst kind ms ∧ kind ≠ 0x01#8 ∧ kind ≠ 0x02#8 ∧ kind ≠ 0x03#8

/-! ### The claim engine's judgement of one report (R35) -/

/-- R25: what is judged carries an urgency and has precedence over own group `g`. -/
def State.Outranked (s : State) (j : Judged) (g : Nat) : Prop :=
  ∃ x, j.urgency = some x ∧ precedes x j.station j.group (s.group g).claimUrgency s.figures.address g = true

/-- R36: what is judged withdraws own PROPOSED group `g`: it conflicts with it, and is a placeholder, is past proposal or has
precedence. -/
def State.Yields (s : State) (j : Judged) (g : Nat) : Prop :=
  g ∈ j.mask ∧ (s.group g).state = .proposed ∧ (j.urgency = none ∨ j.phase ≠ .proposed ∨ s.Outranked j g)

/-- R46: what is judged ends the test of own TESTING group `g`. -/
def State.Stops (s : State) (j : Judged) (g : Nat) : Prop :=
  g ∈ j.mask ∧ (s.group g).state = .testing ∧ j.urgency ≠ none ∧
    ((j.phase = .testing ∧ s.Outranked j g) ∨
      (j.phase = .recovering ∧ ¬ (j.previous = some .testing ∧ ¬ s.Outranked j g)))

/-- R46, R47: what is judged is a late conflict with own TESTING or RECOVERING group `g`. -/
def State.Late (s : State) (j : Judged) (g : Nat) : Prop :=
  g ∈ j.mask ∧ (s.group g).state.past = true ∧ j.urgency ≠ none ∧ j.phase ≠ .proposed

/-- R35, step 1: what the judgement of one report leaves. Exactly the groups that yield are withdrawn (R36) and exactly those
that stop end early (R46); TEST_ABORTED and CONFLICT_LATE occur with the last such group of the mask, and not where there is
none (R46, R47). -/
structure JudgeStep (j : Judged) (s u : State) : Prop where
  keeps : Keeps [.groups, .lums, .mem, .line, .events, .service] s u
  service : RestartNoted s u
  withdrawn : ∀ g, s.Yields j g → Withdrawn g s u ∧ Waits (.release g .withdrawn) u
  ended : ∀ g, s.Stops j g → EndsEarly g .abortedConflict true s u
  others : ∀ g, ¬ s.Yields j g → ¬ s.Stops j g → u.group g = s.group g
  lums : ∀ n, (∀ g, s.Stops j g → n ∉ (s.group g).defn.members) → u.lum n = s.lum n
  history : j.mask.Nodup → ∀ gs : List Nat, gs.Sublist j.mask → (∀ g, g ∈ gs ↔ s.Stops j g) →
    HistoryOffered (gs.flatMap (fun g => linesOf g s u)) s u
  aborted : s.events.cells.length = 26 → j.mask.Nodup → ∀ before g after, j.mask = before ++ g :: after → s.Stops j g →
    (∀ h ∈ after, ¬ s.Stops j h) → Occurs .testAborted (groupDetail g) s u
  late : s.events.cells.length = 26 → ∀ before g after, j.mask = before ++ g :: after → s.Late j g →
    (∀ h ∈ after, ¬ s.Late j h) → Occurs .conflictLate (groupDetail g) s u
  notAborted : (∀ g, ¬ s.Stops j g) → u.events.cell Event.testAborted.number = s.events.cell Event.testAborted.number
  notLate : (∀ g, ¬ s.Late j g) → u.events.cell Event.conflictLate.number = s.events.cell Event.conflictLate.number
  cells : ∀ e : Event, e ≠ .testAborted → e ≠ .conflictLate → e ≠ .recordCrcError → e ≠ .reportOverrun →
    u.events.cell e.number = s.events.cell e.number
  claims : ∀ g b, b.phase ≠ .proposed → ¬ s.Stops j g → Waits (.claim g b) s → Waits (.claim g b) u
  releases : ∀ g, Waits (.release g .withdrawn) s → Waits (.release g .withdrawn) u

/-- R35, R63: reports judged one after another, each with its load steps. -/
def JudgedFor : List Judged → State → State → Prop
  | [], s, t => Keeps [] s t
  | j :: js, s, t => ∃ u v, JudgeStep j s u ∧ LoadSteps u v ∧ JudgedFor js v t

/-- R131: the next station frame takes the station to LISTENING. -/
def State.Relistens (s : State) : Prop :=
  (s.sup.mode = .isolated ∧ s.sup.reason = .silence) ∨ s.sup.mode = .standalone

/-- R131, R138, R39: what the supervisor's taking of a frame from a station, and then the view's, leave of everything but the
view and its overflow hold, before any report is judged. `s` is the state at the millisecond of the frame. Where the frame takes
the station to LISTENING every PROPOSED group has been withdrawn. -/
structure Delivered (s w : State) : Prop where
  keeps : Keeps [.sup, .groups, .line, .events, .service, .overrun, .view, .overflow] s w
  service : RestartNoted s w
  listening : s.Relistens →
    w.sup =
      { s.sup with
        mode := .listening, reason := .noReason, listen := some ((2 * s.figures.beacon + 1) * 60),
        silence := some (s.figures.silence * 60), fallback := none, clear := none } ∧
    ∀ g, g < 24 →
      ((s.group g).state = .proposed → Withdrawn g s w ∧ Waits (.release g .withdrawn) w) ∧
      ((s.group g).state ≠ .proposed → w.group g = s.group g)
  latch : s.Relistens → WithdrawnLatch s w
  cells : ∀ e : Event, e ≠ .loadOver → e ≠ .reportOverrun → e ≠ .peerViewFull →
    w.events.cell e.number = s.events.cell e.number
  quiet : ¬ s.Relistens →
    Keeps [.sup, .line, .events, .view, .overflow] s w ∧ w.line = { s.line with receiver := .idle } ∧
      w.sup = { s.sup with silence := some (s.figures.silence * 60) }

/-- R174, R147: a REPLY offered to line `l` joins the end of a queue with room, and is refused by a full one; nothing else of
the line changes. -/
def Answered (r : Reply) (l : Line) (t : State) : Prop :=
  t.line = { l with waiting := if l.size < 12 then l.waiting ++ [.reply r] else l.waiting }

/-- R174: one REPLY to console `src` has been offered to line `l`. -/
def Replies (src : Byte) (status : Status) (echo data : List Byte) (l : Line) (t : State) : Prop :=
  Answered { console := src, status := status, echo := echo, data := data, restart := false } l t

/-- R146: the order of service of the frame classes. -/
def TxFrame.order : TxFrame → Nat
  | .claim _ _ => 1
  | .release _ _ => 1
  | .beacon => 2
  | .reply _ => 3
  | .event _ => 3

/-! ### The layout of a REPLY's data (section 11.2) -/

/-- Section 11.2: fields laid out one after another, each its width in bytes and its value, most significant byte first. -/
def laidOut (fields : List (Nat × Nat)) : List Byte := fields.flatMap (fun f => bytesBE f.1 f.2)

/-- Section 11.2: a value that is stopped, none or not known is sent as the all-ones value of its field. -/
def shown (width : Nat) (v : Option Nat) : Nat × Nat := (width, v.getD (256 ^ width - 1))

/-- Section 11.2: a flag is 00h when clear and 01h when set. -/
def shownFlag (b : Bool) : Nat × Nat := (1, if b = true then 1 else 0)

/-- Section 11.2: six zone places of two bytes, 0000h for each unused one. -/
def shownZones (zones : List Nat) : List (Nat × Nat) := (List.range 6).map (fun i => (2, zones.getD i 0))

/-! ### The layout of frames and of stored records (sections 2.3, 8.2, 9.2, 10.1, 11.1) -/

/-- A detail: its class, then its value (section 10.1). -/
def Detail.shownFields (d : Detail) : List (Nat × Nat) := [(1, d.cls.code.toNat), (1, d.value)]

/-- The payload of a frame that the station sends: CLAIM, RELEASE and BEACON of section 2.3, REPLY of section 11.1, EVENT of
section 10.1. -/
def TxFrame.shownPayload (beacon : BeaconBody) : TxFrame → List Byte
  | .claim g c =>
    laidOut
      ([(1, g), (1, c.phase.code.toNat), (2, c.urgency), (1, c.weight), (2, c.remaining), (2, c.home),
          (1, c.neighbours.length)] ++ c.neighbours.map (fun z => (2, z)))
  | .release g reason => laidOut [(1, g), (1, reason.code.toNat)]
  | .beacon =>
    laidOut
      ([(1, beacon.mode.code.toNat), shownFlag beacon.valid, (4, beacon.minutes), (2, beacon.weight),
          (1, beacon.claims.length)] ++ beacon.claims.flatMap (fun c => [(1, c.1), (1, c.2.code.toNat)]))
  | .reply r => r.status.code :: (r.echo ++ r.data)
  | .event r => laidOut ([(1, r.event)] ++ r.detail.shownFields ++ [(4, r.minutes)])

/-- Section 8.2: kind and destination of a frame; CLAIM, RELEASE and BEACON go to broadcast. -/
def TxFrame.shownKind : TxFrame → Nat × Byte
  | .beacon => (0x01, 0x00#8)
  | .claim _ _ => (0x02, 0x00#8)
  | .release _ _ => (0x03, 0x00#8)
  | .reply r => (0x11, r.console)
  | .event r => (0x13, r.console)

/-- Section 8.2: the header and payload of a frame from address `source`, before its CRC-16. -/
def TxFrame.shownBody (source : Nat) (beacon : BeaconBody) (f : TxFrame) : List Byte :=
  laidOut [(1, source), (1, f.shownKind.2.toNat), (1, f.shownKind.1), (1, (f.shownPayload beacon).length)] ++
    f.shownPayload beacon

/-- The codes that the frames' fields take (sections 2.3, 10.1, 11.1). Those of modes are in PageCodes. -/
structure FrameCodes : Prop where
  reason : [Reason.withdrawn, .complete, .aborted].map Reason.code = [1#8, 2#8, 3#8]
  status :
    ([Status.ok, .retry, .busy, .notSent, .noReply, .refusedSource, .refusedKey, .notApplicable, .badArgument, .corrupt,
      .unconfigured].map (fun x => x.code.toNat)) = List.range 11
  detail :
    ([DetailClass.noDetail, .group, .luminaire, .lineLost, .frameKind, .eventNumber, .console].map
      (fun x => x.code.toNat)) = List.range 7
  phase : [Phase.proposed, .testing, .recovering].map Phase.code = [1#8, 2#8, 3#8]

/-- R140: the characters of the line, ten bit times each, a data bit of 0 dominant and one of 1 recessive, and the bit rates. -/
structure LineCharacters : Prop where
  length : ∀ c : Byte, (charLevels c).length = 10
  start : ∀ c : Byte, (charLevels c)[0]? = some .dominant
  data : ∀ (c : Byte) (i : Nat), i < 8 → (charLevels c)[i + 1]? = some (if c.getLsbD i = true then .recessive else .dominant)
  stop : ∀ c : Byte, (charLevels c)[9]? = some .recessive
  rate : [LineRate.r2400, .r4800, .r9600].map LineRate.bitRate = [2400, 4800, 9600]

/-- R140, section 8.1: the levels that characters are sent as, with nothing between one character's stop bit and the next one's
start bit; no dominant run is longer than 9 bit times. -/
structure SentAs (chars : List Byte) (levels : List LineLevel) : Prop where
  length : levels.length = 10 * chars.length
  level : ∀ k c, chars[k]? = some c → ∀ i, i < 10 → levels[10 * k + i]? = (charLevels c)[i]?
  runs : ¬ List.replicate 10 .dominant <:+: levels

/-- 00_scope, Check codes: the CRC-16, its generator x^16 + x^12 + x^5 + 1 and its initial value FFFFh, each byte's most
significant bit first. -/
structure Crc16Code : Prop where
  start : crc16 [] = 0xFFFF#16
  byte : ∀ (bytes : List Byte) (b : Byte),
    crc16 (bytes ++ [b]) =
      (fun r : BitVec 16 => if r.getLsbD 15 = true then (r <<< 1) ^^^ 0x1021#16 else r <<< 1)^[8]
        (crc16 bytes ^^^ (b.setWidth 16 <<< 8))

/-- 00_scope, Check codes: the CRC-8, its generator x^8 + x^2 + x + 1 and its initial value 00h. -/
structure Crc8Code : Prop where
  start : crc8 [] = 0x00#8
  byte : ∀ (bytes : List Byte) (b : Byte),
    crc8 (bytes ++ [b]) =
      (fun r : Byte => if r.getLsbD 7 = true then (r <<< 1) ^^^ 0x07#8 else r <<< 1)^[8] (crc8 bytes ^^^ b)

/-- Section 9.2, R156, R157: the result codes of group and luminaire records as they are read, codes above the last as none,
and the calendar field in which FFFFFFFFh stands for NEVER or none. -/
structure StoredCodes : Prop where
  group : (List.range 10).map GResult.ofCode =
    [none, some .pass, some .part, some .fail, some .noResponse, some .abortedMains, some .abortedConflict,
      some .abortedLine, some .cancelled, some .abortedRestart]
  groupElse : ∀ k, 9 < k → GResult.ofCode k = none
  lum : (List.range 5).map LResult.ofCode = [none, some .passed, some .failedEarly, some .noReply, some .aborted]
  lumElse : ∀ k, 4 < k → LResult.ofCode k = none
  never : timeOf 0xFFFFFFFF = none
  time : ∀ n, n ≠ 0xFFFFFFFF → timeOf n = some n

/-- Section 9.2: bytes 0 to 14 of a group's record, from its working values (R159). -/
def Group.shownRecord (gr : Group) : List (Nat × Nat) :=
  [(1, if gr.state = .testing then 2 else if gr.state = .recovering then 3 else 1), shown 4 gr.lastTested,
    (1, (GResult.code gr.lastResult).toNat), (1, gr.fails), shownFlag gr.held,
    (2, if gr.state = .recovering then gr.recharge.getD 0 else 0), shown 4 gr.recTestStart, shown 1 gr.recFirstFailing]

/-- Section 9.2: bytes 0 to 9 of a luminaire's record. -/
def LumRecord.shownFields (r : LumRecord) : List (Nat × Nat) :=
  [shown 4 r.time, (1, (LResult.code r.result).toNat), (1, r.achieved), (1, r.volts.toNat), (1, r.faults.toNat),
    (1, r.next), (1, r.count)]

/-- Section 9.2: bytes 0 to 7 of a history line. -/
def HistLine.shownFields (l : HistLine) : List (Nat × Nat) :=
  [(4, l.time), (1, l.group), (1, (LResult.code (some l.result)).toNat), (1, l.achieved), (1, l.volts.toNat)]

/-- Page 4 of STATION STATUS: the five bytes of a branch (R110). -/
def Branch.shownFields (b : Branch) : List (Nat × Nat) :=
  [shownFlag b.down, (1, (LoopSource.code (b.txn.map LoopTxn.source)).toNat), shownFlag b.sweep.isSome, shown 1 b.sweep,
    (1, b.window.countP (fun r => !r.good))]

/-- The frames in the queue of one class, the current one among them (R152). -/
def Line.inQueue (l : Line) (order : Nat) : Nat :=
  (l.waiting ++ (l.current.map Current.frame).toList).countP (fun f => decide (f.order = order))

/-- The pages of STATION STATUS, each field with its width in the order of its offsets (R111, R124, R139, R173, R23, R61, R64,
R110, R152, R166). -/
structure State.StatusPages (s : State) : Prop where
  page0 : stationStatusData 0 0 s = some (laidOut
    [shown 1 s.sup.address, (1, s.sup.mode.code.toNat), (1, s.sup.reason.code.toNat), (4, s.calendar.minutes),
      (1, s.calendar.seconds), shownFlag s.calendar.valid, (1, s.calendar.minutes / 60 % 168), (4, s.clock.seconds)])
  page1 : stationStatusData 0 1 s = some (laidOut
    [shown 2 s.sup.listen, shown 2 s.sup.silence, shown 4 s.sup.fallback, shown 4 s.sup.clear, (1, s.sup.isolations),
      (1, s.figures.isolationLimit), shownFlag s.figures.fallback, (1, s.figures.fallbackDays)])
  page2 : stationStatusData 0 2 s = some (laidOut
    [(1, s.inputs.mains.code.toNat), (2, if s.inputs.mains = .off then s.inputs.outageTimer / 60 else 0),
      (2, s.inputs.lastOutage), (2, s.inputs.outageHold), (1, s.inputs.inhibit.code.toNat), (2, s.inputs.stuck),
      (1, s.service.key.code.toNat)])
  page3 : stationStatusData 0 3 s = some (laidOut
    [(1, s.ownSet.length), (2, s.ownWeight), shownFlag s.overrun, (1, s.view.length),
      (1, s.view.countP (fun e => e.full.isNone)), (2, s.viewLoad), shownFlag s.overflow.isSome, (2, s.overflow.getD 0)])
  page4 : stationStatusData 0 4 s = some (laidOut
    (s.loop.a.shownFields ++ s.loop.b.shownFields ++
      [shown 1 s.loop.sweepCountdown, (1, (Slot.code s.loop.slot).toNat), shown 1 (s.loop.slot.map Slot.lum)]))
  page5 : stationStatusData 0 5 s = some (laidOut
    [(1, s.line.rate.code.toNat), shownFlag s.line.cut.isSome, (1, s.line.cut.getD 0), shownFlag s.line.held,
      (1, s.line.inQueue 1), (1, s.line.inQueue 2), (1, s.line.inQueue 3), (1, s.line.backlog.length),
      (1, (s.line.current.map (fun c => c.frame.kind.toNat)).getD 0), (1, (s.line.current.map Current.attempt).getD 0),
      (1, (s.line.current.map Current.window).getD 0)])
  page6 : stationStatusData 0 6 s = some (laidOut
    ([(2, s.mem.appender.length), (1, s.groups.countP Group.dirty), (1, s.lums.countP Lum.dirty),
        (1, s.mem.cache.length)] ++
      (List.range 4).map (fun i => shown 1 s.mem.fillPending[i]?) ++
      [(1, (Requester.code (s.mem.txn.map MemTxn.holder)).toNat)]))
  others : ∀ index page, 0 < index ∨ 6 < page → stationStatusData index page s = none

/-- The pages of GROUP for one group (R1, R23, R65, R92). -/
structure State.GroupPages (s : State) (g : Nat) : Prop where
  page0 : groupData g 0 s = some (laidOut
    ([(16, setNat (s.group g).defn.members), (1, (s.group g).weight), (2, (s.group g).defn.home)] ++
      shownZones (s.group g).defn.neighbours ++
      [(1, (s.group g).defn.minutes), (1, (s.group g).defn.rechargeHours), (2, (s.group g).defn.interval),
        (1, (s.group g).defn.early)]))
  page1 : ∀ kind minutes,
    (let blocking := s.view.filter (fun e => e.mask.contains g)
     if (s.group g).note ≠ .conflictPeer then kind = 0 ∧ minutes = 0
     else if ∃ e ∈ blocking, e.full = none then kind = 2 ∧ minutes = 0
     else kind = 1 ∧ minutes = (blocking.filterMap (fun e => e.full.map FullClaim.remaining)).foldl max 0) →
    groupData g 1 s = some (laidOut
      [(1, (s.group g).state.code.toNat), shownFlag (s.group g).held, shownFlag (s.group g).forced,
        shown 4 (s.group g).lastTested, (1, (s.group g).fails), (1, (GResult.code (s.group g).lastResult).toNat),
        shown 2 (s.group g).age, (2, (s.group g).urgency), (2, (s.group g).claimUrgency), (1, (s.group g).backoff),
        shownFlag (s.group g).overdue, (1, (s.group g).note.code.toNat), (1, kind), (2, minutes)])
  page2 : groupData g 2 s = some (laidOut
    ((if (s.group g).state = .testing then
        [(2, ((s.group g).testStart.map (fun x => (s.now - x.tick) / 60000)).getD 0), (2, (s.group g).round.getD 0)] ++
          (List.range 8).map (fun c =>
            (1, (s.group g).defn.members.countP (fun n => decide ((s.lum n).test.code = c)))) ++
          [shown 1 (s.group g).firstFailing]
      else [(2, 0), (2, 0)] ++ List.replicate 8 (1, 0) ++ [(1, 255)]) ++
      [(2, if (s.group g).state = .recovering then (s.group g).recharge.getD 0 else 0),
        shownFlag (decide ((s.group g).state = .recovering ∧ s.inputs.mains ≠ .on)), (2, if (s.group g).state = .recovering then (s.group g).recharge.getD 0 else 0), shown 1 (s.group g).recFirstFailing, shown 4 (s.group g).recTestStart]))
  others : ∀ page, 2 < page → groupData g page s = none

/-- The pages of LUMINAIRE for one luminaire (R92, R110). -/
structure State.LumPages (s : State) (n : Nat) : Prop where
  page0 : luminaireData n 0 s = some (laidOut
    [(1, (s.lum n).test.code), (1, (s.lum n).startCount), (1, (s.lum n).achieved), shownFlag (s.lum n).endOwed,
      shownFlag (s.lum n).lastGood.isSome, (1, ((s.lum n).lastGood.map (fun r => r.volts.toNat)).getD 0),
      (1, ((s.lum n).lastGood.map (fun r => r.faults.toNat)).getD 0),
      (2, if (s.lum n).test = .discharging then (s.now - (s.lum n).ownStart.getD s.now) / 60000 else 0)])
  page1 : luminaireData n 1 s = some (laidOut
      [(1, (BranchId.code (s.lum n).branch).toNat), (1, (s.lum n).presence.code.toNat), (1, (s.lum n).misses),
        shownFlag (s.lum n).latest.isSome, (1, ((s.lum n).latest.map (fun r => r.status.toNat)).getD 0),
        (1, ((s.lum n).latest.map (fun r => r.volts.toNat)).getD 0),
        (1, ((s.lum n).latest.map (fun r => r.faults.toNat)).getD 0),
        shown 4 ((s.lum n).latest.map (fun r => (s.now - r.tick) / 1000)), (1, (s.lum n).reported.toNat)] ++
      laidOut (s.lum n).record.shownFields)
  others : ∀ page, 1 < page → luminaireData n page s = none

/-- A PEER ENTRY's data (R66). -/
def Entry.shownFields (e : Entry) : List (Nat × Nat) :=
  [(1, e.station), (1, e.group), (1, e.phase.code.toNat), shownFlag e.full.isNone, (1, e.weight), (2, e.age),
    (3, setNat e.mask), shown 2 (e.full.map FullClaim.urgency), shown 2 (e.full.map FullClaim.remaining),
    shown 2 (e.full.map FullClaim.home), (1, ((e.full.map FullClaim.neighbours).getD []).length)] ++
    shownZones ((e.full.map FullClaim.neighbours).getD [])

/-- The pages of EVENT STATUS and of COUNTERS (R113, R152, R168). -/
structure State.EventPages (s : State) : Prop where
  page0 : ∀ sets : (EventCell → Bool) → List Nat,
    (∀ p, sets p = (List.range 26).filter (fun k => p (s.events.cell k))) →
    eventStatusData 0 0 s = some (
      laidOut [(4, setNat (sets EventCell.raw)), (4, setNat (sets EventCell.mask)), (4, setNat (sets EventCell.status))] ++
        laidOut ((List.range 12).flatMap (fun k => (s.events.cell k).detail.shownFields)))
  page1 : eventStatusData 0 1 s =
    some (laidOut ((List.range 14).flatMap (fun k => (s.events.cell (12 + k)).detail.shownFields)))
  others : ∀ index page, 0 < index ∨ 1 < page → eventStatusData index page s = none
  counters : countersData 0 0 s = some [byte s.line.crcErrors, byte s.line.clashes, byte s.inputs.glitches]
  noOther : ∀ index sub, 0 < index ∨ 0 < sub → countersData index sub s = none

/-- The codes that the pages' fields take (section 11.2). -/
structure PageCodes : Prop where
  mode : [Mode.listening, .coordinating, .isolated, .standalone, .unconfigured].map Mode.code = [1#8, 2#8, 3#8, 4#8, 5#8]
  reason : [IsoReason.noReason, .silence, .driver].map IsoReason.code = [0#8, 1#8, 2#8]
  mains : [Mains.unknown, .on, .off].map Mains.code = [0#8, 1#8, 2#8]
  contact : [Contact.unknown, .active, .inactive].map Contact.code = [0#8, 1#8, 2#8]
  group : [GState.unused, .idle, .due, .proposed, .testing, .recovering].map GState.code =
    [0#8, 1#8, 2#8, 3#8, 4#8, 5#8]
  result :
    [none, some GResult.pass, some .part, some .fail, some .noResponse, some .abortedMains, some .abortedConflict,
      some .abortedLine, some .cancelled, some .abortedRestart].map GResult.code =
      [0#8, 1#8, 2#8, 3#8, 4#8, 5#8, 6#8, 7#8, 8#8, 9#8]
  note :
    [Note.notDue, .inClaim, .mode, .time, .mains, .outage, .inhibit, .held, .backoff, .window, .noMember, .setFull,
      .conflictOwn, .conflictPeer, .overflow, .load, .outranked, .admitted].map (fun x => x.code.toNat) = List.range 18
  lumResult :
    [none, some LResult.passed, some .failedEarly, some .noReply, some .aborted].map LResult.code =
      [0#8, 1#8, 2#8, 3#8, 4#8]
  test :
    [TestState.untested, .pendingStart, .discharging, .passed, .failedEarly, .noReply, .excluded, .aborted].map
      TestState.code = List.range 8
  branch : [some BranchId.branchA, some .branchB, none].map BranchId.code = [0x00#8, 0x01#8, 0xFF#8]
  presence : [Presence.unknown, .present, .absent].map Presence.code = [0#8, 1#8, 2#8]
  source : [none, some LoopSource.test, some .passThrough, some .sweep].map LoopSource.code = [0#8, 1#8, 2#8, 3#8]
  slot : Slot.code none = 0#8 ∧
    ∀ lum console, [false, true].map (fun b => Slot.code (some { lum := lum, console := console, inFlight := b })) =
      [1#8, 2#8]
  rate : [LineRate.r2400, .r4800, .r9600].map LineRate.code = [0#8, 1#8, 2#8]
  holder : [none, some Requester.appender, some .flusher, some .fill].map Requester.code = [0#8, 1#8, 2#8, 3#8]
  phase : [Phase.proposed, .testing, .recovering].map Phase.code = [1#8, 2#8, 3#8]
  set : ∀ l : List Nat, l.Nodup → ∀ k, (setNat l).testBit k = true ↔ k ∈ l

/-- R72: a START or PROBE request of TESTING group `g` stands for luminaire `n` of branch `b`; a START request of a DOWN
branch does not. -/
def State.Asks (s : State) (b : BranchId) (r : Request) (g n : Nat) : Prop :=
  g < 24 ∧ (s.group g).state = .testing ∧ n ∈ (s.group g).defn.members ∧ (s.lum n).branch = some b ∧
    (s.lum n).request = some r ∧ (r = .start → (s.branch b).down = false)

/-- R142, R143: a frame with this source and destination passes the checks: the line is not held, the source is valid and
the destination is broadcast or the address in use. -/
structure State.Hears (s : State) (src dst : Byte) : Prop where
  powered : s.powered = true
  free : s.line.held = false
  source : 1 ≤ src.toNat ∧ src.toNat ≤ 247
  destination : dst.toNat = 0 ∨ s.sup.address = some dst.toNat

/-- R50, R144: the part takes a CLAIM, RELEASE or BEACON from this station address. -/
structure State.HearsPeer (s : State) (src dst : Byte) : Prop where
  hears : s.Hears src dst
  station : src.toNat ≤ 222
  other : s.sup.address ≠ some src.toNat
  mode : s.sup.mode.configured = true

/-- R174: the service responder takes a frame from this console. -/
structure State.HearsConsole (s : State) (src dst : Byte) : Prop where
  powered : s.powered = true
  free : s.line.held = false
  console : 224 ≤ src.toNat ∧ src.toNat ≤ 247
  destination : s.sup.address = some dst.toNat
  mode : s.sup.mode ≠ .loading

/-- R176, checks 1 to 4: a command from this console passes them; `key` tells a command that needs the service key. -/
structure State.Permits (s : State) (src : Byte) (key : Bool) : Prop where
  mode : s.sup.mode ≠ .unconfigured
  source : ∃ a ∈ s.service.authorised, a.on = true ∧ a.address = src
  key : key = true → s.service.key = .active
  restart : s.service.restart = none

/-- R178: what every reset leaves in each block but the supervisor, the calendar, the pins and the memory. -/
structure FreshBlocks (s t : State) : Prop where
  powered : t.powered = true
  clock : t.clock = { seconds := 0, ms := 0, secondOfMinute := 0, minuteDue := false, passDue := false }
  inputs : t.inputs =
    { mains := .unknown, mainsCand := { high := s.pins.msense, since := 0 }, validation := 10, glitches := 0,
      outageTimer := 0, lastOutage := 0, outageHold := 0, inhibit := .unknown,
      inhibitCand := { high := s.pins.inhibit, since := 0 }, stuck := 0, stuckDue := false }
  groups : t.groups = List.replicate 24 Group.empty
  lums : t.lums = List.replicate 128 Lum.empty
  claims : t.beacon = none ∧ t.overrun = false
  view : t.view = [] ∧ t.overflow = none
  loop : t.loop = { a := Branch.empty, b := Branch.empty, sweepCountdown := none, slot := none }
  line : t.line =
    { waiting := [], backlog := [], current := none, cut := none, held := false, receiver := .idle, crcErrors := 0,
      clashes := 0, draw := none, slot := none, rate := .r9600 }
  mem : t.mem = { nvm := t.mem.nvm, appender := [], cache := [], fillPending := [], txn := none, turn := .appender }
  events : t.events =
    { cells := List.replicate 26 EventCell.empty, destinations := List.replicate 4 ConsoleEntry.off, reports := [] }
  service : t.service =
    { authorised := List.replicate 4 ConsoleEntry.off, key := .unknown,
      keyCand := { high := s.pins.skey, since := 0 }, restart := none, replyGone := false }
  loader : t.loader = { next := .config, figures := none, restored := [] }

/-- R153: a write in flight, abandoned, has put down some first part of its bytes; nothing else of the memory changes. -/
def Torn (s t : State) : Prop :=
  match s.mem.txn.bind MemTxn.write with
  | some (offset, bytes) => ∃ k, k ≤ bytes.length ∧ t.mem.nvm = s.mem.nvm.write offset (bytes.take k)
  | none => t.mem.nvm = s.mem.nvm

end Sys2Proof.Machine
end

