-- ==== Sys2Proof/Certificates/Slice0/Obligations.lean ====
section
/-! DEFINITION. The statements for the provers, each a property of the manual that the model is to have. -/

open Sys2Proof Sys2Proof.Machine

/-- The block's step: the command at the front of the queue runs on the state with the queue's rest. That an empty
queue leaves the state as it is, is the model's choice (log 20). -/
def Obligations.StepRunsFrontCommand : Prop :=
  (∀ (c : Instr) (rest : List Instr) (s : State), step { s with pending := c :: rest } = exec c { s with pending := rest }) ∧
  ∀ s : State, s.pending = [] → step s = .next s

/-- No rule of the manual stops the part, so every command completes in every state. That a command whose condition
does not hold leaves the state as it is, is the model's choice (log 1). -/
def Obligations.EveryCommandCompletes : Prop :=
  ∀ (c : Instr) (s : State), ∃ t, exec c s = .next t ∧ t.pending = s.pending

/-- R119 has the backup domain run on without the main supply. That every other step then finds nothing to act on is
the model's choice (log 1, log 24). -/
def Obligations.NothingRunsWithoutSupply : Prop :=
  ∀ (c : Instr) (s : State), s.powered = false →
    (match c with
     | .powerOnReset => False
     | .oscillatorStop => False
     | .calendarAdvance => False
     | .msenseChange _ _ => False
     | .inhibitChange _ _ => False
     | .skeyChange _ _ => False
     | _ => True) →
    exec c s = .next s

/-- An invariant that every step keeps (R153): the record memory keeps its canonical form: offsets strictly rising, no
byte listed that an unlisted offset reads as (FFh, the model's choice, log 8). -/
def Obligations.MemoryStaysCanonical : Prop :=
  ∀ s t : State, Memory.wf s.mem.nvm → step s = .next t → Memory.wf t.mem.nvm

/-- An invariant that every step keeps (R1, R68, R167): the group table has 24 entries, the luminaire table 128 and
the event table 26. -/
def Obligations.TablesStayWhole : Prop :=
  ∀ s t : State, s.TablesWhole → step s = .next t → t.TablesWhole

/-- An invariant that every step keeps (R50, R126): the peer view holds at most 48 entries, no two with the same key,
none of the station's own address, and none in LOADING (R126). -/
def Obligations.ViewLawIsKept : Prop :=
  ∀ s t : State, s.ViewLaw → step s = .next t → t.ViewLaw

/-- An invariant that every step keeps (R141, R147): the transmit queue holds at most 12 frames, waiting and current
together, and holds 12 whenever the protocol backlog is not empty. -/
def Obligations.QueueLawIsKept : Prop :=
  ∀ s t : State, s.QueueLaw → step s = .next t → t.QueueLaw

/-- An invariant that every step keeps (R125): the isolation reason is not none exactly while the mode is ISOLATED. -/
def Obligations.ReasonLawIsKept : Prop :=
  ∀ s t : State, s.ReasonLaw → step s = .next t → t.ReasonLaw

/-- An invariant that every step keeps (R26): a group has a claim record exactly while it is in the own reduced set,
and the record's phase equals its state. -/
def Obligations.ClaimLawIsKept : Prop :=
  ∀ s t : State, s.ClaimLaw → step s = .next t → t.ClaimLaw

/-- An invariant that every step keeps (R84, R114): no group is PROPOSED or TESTING unless the validated mains state
is ON. -/
def Obligations.MainsLawIsKept : Prop :=
  ∀ s t : State, s.MainsLaw → step s = .next t → t.MainsLaw

/-- An invariant that every step keeps (R10, R39, R40): no group is PROPOSED unless the mode is COORDINATING or
STANDALONE. -/
def Obligations.ProposalLawIsKept : Prop :=
  ∀ s t : State, s.ProposalLaw → step s = .next t → t.ProposalLaw

/-- An invariant that every step keeps (R10): at most two own groups are PROPOSED or TESTING. -/
def Obligations.PairLawIsKept : Prop :=
  ∀ s t : State, s.PairLaw → step s = .next t → t.PairLaw

/-- An invariant that every step keeps (R100): a luminaire is ABSENT exactly when its miss count is 3. -/
def Obligations.PresenceLawIsKept : Prop :=
  ∀ s t : State, s.PresenceLaw → step s = .next t → t.PresenceLaw

/-- An invariant that every step keeps (R163, R164): the cache holds at most eight pages of distinct luminaires, no
cached luminaire has a line in the appender list or a fill pending, at most four distinct fills are pending, and a
fill in flight is of a pending luminaire and has no line behind it unless one arrived during the read. -/
def Obligations.HistoryLawIsKept : Prop :=
  ∀ s t : State, s.HistoryLaw → step s = .next t → t.HistoryLaw

/-- An invariant that every step keeps (the rules are named beside their counts): these counts are within the largest
values the manual gives them: the tick 4,294,967,295 s (R111), the calendar FFFFFFFEh (R119), the CRC error, address-
clash and glitch counters 255 (R113, R143, R144), the isolation counter 15 (R134), the outage timer 3,932,100 s
(R114), the last outage 65,535 min (R115), the outage hold 2880 (R116), the stuck timer 10,080 (R118), failed attempts
7 (R21), urgencies 1023 (R7), backoffs 24 (R16), ages of groups 4095 (R6), recharge holds 48 h (R1), recharges 2880
min (R91), ages of entries 300 (R55; that an entry stands at 300 until ENTRY_AGE_OUT is the model's choice, log 42),
entry weights 128 (R28, R58), miss counts 3 (R100), failure windows 8 (R101), the appender list 256 (R161) and the
report list 8 (R169). The hold, the refresh, the supervisor's countdowns, start counts, achieved minutes, ring counts
and the backlog are not among them. -/
def Obligations.BoundsLawIsKept : Prop :=
  ∀ s t : State, s.BoundsLaw → step s = .next t → t.BoundsLaw

/-- Every law that the invariant statements keep holds after reset (R22, R26, R67, R68, R93, R125, R141, R166, R167).
-/
def Obligations.ResetMeetsEveryLaw : Prop :=
  Memory.wf State.reset.mem.nvm ∧ State.reset.TablesWhole ∧ State.reset.ViewLaw ∧ State.reset.QueueLaw ∧
    State.reset.ReasonLaw ∧ State.reset.ClaimLaw ∧ State.reset.MainsLaw ∧ State.reset.ProposalLaw ∧ State.reset.PairLaw ∧
    State.reset.PresenceLaw ∧ State.reset.HistoryLaw ∧ State.reset.BoundsLaw

/-- R171, R172: the HEALTHY relay and the FAULT, RUN and TEST indicators. Each pattern begins with its on phase at the
moment its condition begins, and runs on while the condition lasts. That the relay and the three indicators are dark
without the supply is the model's choice (DESIGN CHOICE, log 24). -/
def Obligations.LampsFollowTheirPatterns : Prop :=
  (∀ (c : Instr) (s t : State), exec c s = .next t →
    (t.runPattern ≠ s.runPattern → t.lamps.runSince = t.now) ∧
    (t.runPattern = s.runPattern → t.runPattern ≠ .dark → t.lamps.runSince = s.lamps.runSince) ∧
    (t.testPattern ≠ s.testPattern → t.lamps.testSince = t.now) ∧
    (t.testPattern = s.testPattern → t.testPattern ≠ .dark → t.lamps.testSince = s.lamps.testSince)) ∧
  ∀ s : State,
    let run := s.now - s.lamps.runSince
    let test := s.now - s.lamps.testSince
    let active (st : GState) : Prop := ∃ g, g < 24 ∧ (s.group g).state = st
    (s.healthy = true ↔
      s.powered = true ∧ (s.sup.mode = .listening ∨ s.sup.mode = .coordinating) ∧
        ∀ k ∈ [0, 1, 4, 6, 8, 10, 11, 13, 14, 15, 16, 22, 24, 25], (s.events.cell k).status = false) ∧
    (s.faultLamp = true ↔ s.powered = true ∧ s.healthy = false) ∧
    (s.powered = false → s.runLamp = false ∧ s.testLamp = false) ∧
    (s.powered = true →
      (s.sup.mode = .coordinating → s.runLamp = true) ∧
      (s.sup.mode = .listening → (s.runLamp = true ↔ run % 2000 < 1000)) ∧
      (s.sup.mode = .isolated → (s.runLamp = true ↔ run % 500 < 250)) ∧
      (s.sup.mode = .standalone →
        (s.runLamp = true ↔ run % 2000 < 200 ∨ (400 ≤ run % 2000 ∧ run % 2000 < 600))) ∧
      (s.sup.mode = .loading ∨ s.sup.mode = .unconfigured → s.runLamp = false) ∧
      (active .testing → s.testLamp = true) ∧
      (¬ active .testing → active .recovering → (s.testLamp = true ↔ test % 2000 < 1000)) ∧
      (¬ active .testing → ¬ active .recovering → s.testLamp = false))

/-- R5 (steps 1 to 4), R6, R7, R9: what a scheduling pass computes for each group in use. The quotients of R6 and R7
are taken in the rationals and floored, as the rules write them. The order of several groups newly overdue is the
model's (log 37). -/
def Obligations.PassRanksEveryGroup : Prop :=
  ∀ (s : State) (g : Nat), s.powered = true → s.clock.passDue = true → s.sup.mode.configured = true →
    s.events.cells.length = 26 → g < 24 → (s.group g).state ≠ .unused →
    (s.group g).defn.early ≤ (s.group g).defn.interval →
    let gr := s.group g
    let bound := gr.defn.interval - gr.defn.early
    let ageOf (h : Nat) : Nat :=
      match (s.group h).lastTested with
      | none => 4095
      | some p => if s.calendar.minutes < p then 0 else min 4095 ⌊((s.calendar.minutes : ℚ) - (p : ℚ)) / 1440⌋₊
    let age := ageOf g
    let late : Nat := ⌊256 * ((age : ℚ) - (bound : ℚ) + 1) / ((gr.defn.early : ℚ) + 1)⌋₊ + 32 * gr.fails
    let urgency : Nat :=
      if s.calendar.valid = false then 0
      else if age < bound then (if gr.forced = true then min 1023 (512 + 32 * gr.fails) else 0)
      else if gr.forced = true then max 512 (min 1023 late)
      else min 1023 late
    let due := gr.defn.interval + s.figures.grace ≤ age
    let newlyDue (h : Nat) : Prop :=
      h < 24 ∧ (s.group h).state ≠ .unused ∧ s.calendar.valid = true ∧ (s.group h).overdue = false ∧
        (s.group h).defn.interval + s.figures.grace ≤ ageOf h
    ∃ t, exec .schedulingPass s = .next t ∧
      (t.group g).age = (if s.calendar.valid = true then some age else none) ∧
      (t.group g).urgency = urgency ∧
      (t.group g).overdue = (if s.calendar.valid = true then decide due else gr.overdue) ∧
      (s.calendar.valid = true → due → gr.overdue = false → (t.events.cell Event.overdue.number).raw = true) ∧
      (t.group g).backoff = (if gr.state = .due ∧ urgency = 0 then 0 else gr.backoff - 1) ∧
      ((gr.state = .idle ∨ gr.state = .due) → urgency = 0 → (t.group g).state = .idle) ∧
      ((gr.state = .idle ∨ gr.state = .due) → urgency ≠ 0 → (t.group g).state = .due ∨ (t.group g).state = .proposed) ∧
      (gr.state ≠ .idle → gr.state ≠ .due → (t.group g).state = gr.state) ∧
      (∀ h, newlyDue h → (∀ k, newlyDue k → k ≤ h) → Occurs .overdue (groupDetail h) s t) ∧
      ((∀ h, ¬ newlyDue h) → t.events.cell Event.overdue.number = s.events.cell Event.overdue.number) ∧
      t.group g =
        { gr with
          age := (t.group g).age, urgency := (t.group g).urgency, overdue := (t.group g).overdue,
          backoff := (t.group g).backoff, state := (t.group g).state, note := (t.group g).note,
          claimUrgency := (t.group g).claimUrgency, claim := (t.group g).claim } ∧
      (((t.group g).state = gr.state ∨ (t.group g).state ≠ .proposed) →
        (t.group g).claimUrgency = gr.claimUrgency ∧ (t.group g).claim = gr.claim) ∧
      ∀ h, (s.group h).state = .unused → t.group h = s.group h

/-- R5 (steps 5 and 6), R8, R10, R14, R15, R27, R32, R48, and R137 for STANDALONE: the admission of at most one group
in a pass. -/
def Obligations.PassAdmitsTheMostUrgent : Prop :=
  ∀ s : State, s.powered = true → s.clock.passDue = true → s.sup.mode.configured = true →
    let r := rankGroups { s with clock := { s.clock with passDue := false } }
    ∃ t, exec .schedulingPass s = .next t ∧
      t.clock = { s.clock with passDue := false } ∧
      Keeps [.clock, .groups, .line, .events, .service, .overrun] s t ∧ RestartNoted s t ∧
      EventsKept [.overdue, .loadOver] s t ∧
      (∀ h, r.group h =
        { s.group h with
          age := (r.group h).age, urgency := (r.group h).urgency, overdue := (r.group h).overdue,
          backoff := (r.group h).backoff, state := (r.group h).state }) ∧
      (∀ h, (s.group h).state = .unused → r.group h = s.group h ∧ t.group h = s.group h) ∧
      (∀ h, h < 24 →
        ((r.group h).state = .idle → (t.group h).note = .notDue) ∧
        ((r.group h).state.reduced = true → (t.group h).note = .inClaim) ∧
        ((r.group h).state = .due → ∀ before p note after, r.admissionRules h = before ++ (p, note) :: after →
          (∀ q ∈ before, q.1) → ¬ p → (t.group h).note = note) ∧
        ((r.group h).state = .due → ¬ r.Admissible h → (t.group h).note ≠ .outranked ∧ (t.group h).note ≠ .admitted)) ∧
      ((∀ g, g < 24 → ¬ r.Admissible g) →
        t.line = s.line ∧ Unlatched s t ∧ ∀ h, t.group h = { r.group h with note := (t.group h).note }) ∧
      ∀ g, g < 24 → r.Admissible g →
        (∀ h, h < 24 → r.Admissible h →
          (r.group h).urgency < (r.group g).urgency ∨ ((r.group h).urgency = (r.group g).urgency ∧ g ≤ h)) →
        t.group g =
          { r.group g with
            state := .proposed, claimUrgency := (r.group g).urgency, note := .admitted,
            claim := some { phase := .proposed, hold := some .awaiting, refresh := none } } ∧
        Offered
          (.claim g
            { phase := .proposed, urgency := (r.group g).urgency, weight := (s.group g).defn.members.length,
              remaining := (s.group g).defn.minutes + 60 * (s.group g).defn.rechargeHours,
              home := (s.group g).defn.home, neighbours := (s.group g).defn.neighbours }) s.line t ∧
        Relatched s t ∧
        ∀ h, h ≠ g →
          t.group h = { r.group h with note := (t.group h).note } ∧
          (h < 24 → r.Admissible h → (t.group h).note = .outranked)

/-- R24, R25: the conflict relation, the conflict masks it gives, and precedence as a total order on claims. -/
def Obligations.ConflictAndPrecedence : Prop :=
  (∀ (d : GroupDef) (home : Nat) (near : List Nat),
    d.conflicts home near = true ↔
      (home ≠ 0 ∧ home = d.home) ∨ (home ≠ 0 ∧ home ∈ d.neighbours) ∨ (d.home ≠ 0 ∧ d.home ∈ near)) ∧
  (∀ d e : GroupDef, d.conflicts e.home e.neighbours = e.conflicts d.home d.neighbours) ∧
  (∀ (s : State) (station : Nat) (c : ClaimFrame) (g : Nat),
    g ∈ (s.entryOf station c).mask ↔
      g < 24 ∧ (s.group g).state ≠ .unused ∧ (s.group g).defn.conflicts c.full.home c.full.neighbours = true) ∧
  (∀ (s : State) (station : Nat) (p : Nat × Phase) (g : Nat),
    g ∈ (s.placeholder station p).mask ↔ g < 24 ∧ (s.group g).state ≠ .unused) ∧
  (∀ u a g v b h : Nat,
    (precedes u a g v b h = true ↔ v < u ∨ (u = v ∧ a < b) ∨ (u = v ∧ a = b ∧ g < h)) ∧
    ((a, g) ≠ (b, h) → (precedes u a g v b h = true ↔ ¬ precedes v b h u a g = true))) ∧
  (∀ u a g v b h w c k : Nat,
    precedes u a g v b h = true → precedes v b h w c k = true → precedes u a g w c k = true) ∧
  (∀ (s : State) (j : Judged) (g u : Nat), j.urgency = some u →
    s.outranks j g = precedes u j.station j.group (s.group g).claimUrgency s.figures.address g) ∧
  ∀ (s : State) (j : Judged) (g : Nat), j.urgency = none → s.outranks j g = true

/-- R11: the hours of the week that a test could occupy, and the window condition over them. -/
def Obligations.WindowHours : Prop :=
  (∀ (s : State) (g : Nat), s.windowFor (s.group g) = true ↔ s.HoursOpen g) ∧
  (∀ n t : Nat, t ≤ 240 → n / 60 ≤ (n + t + 15) / 60 ∧ (n + t + 15) / 60 - n / 60 + 1 ≤ 6) ∧
  ∀ (s : State) (g : Nat), (∀ k, k < 168 → s.figures.window.getD k false = false) → s.windowFor (s.group g) = false

/-- R83: the recharge after a test that ended early, its quotient taken in the rationals and raised to the next whole
number. -/
def Obligations.EarlyEndRecharge : Prop :=
  ∀ (s : State) (g : Nat) (r : GResult) (owed : Bool) (start : TestStart),
    (s.group g).state = .testing → (s.group g).testStart = some start → 0 < (s.group g).defn.minutes →
    ((endTest g r owed s).group g).recharge = some ((s.group g).RechargeAfter ((s.now - start.tick) / 60000)) ∧
      ((endTest g r owed s).group g).state = .recovering

/-- R58: the placeholders of a station share what its full entries leave of its BEACON's weight. -/
def Obligations.PlaceholderShares : Prop :=
  ∀ (station weight : Nat) (v : List Entry),
    let isPlaceholder : Entry → Bool := fun e => decide (e.station = station ∧ e.full = none)
    let remainder := weight - ((v.filter (fun e => decide (e.station = station ∧ e.full ≠ none))).map Entry.weight).sum
    let p := (v.filter isPlaceholder).length
    (reweigh station weight v).length = v.length ∧
    ∀ (i : Nat) (e : Entry), v[i]? = some e →
      (reweigh station weight v)[i]? =
        some
          (if isPlaceholder e = true then
            { e with
              weight := min 128 (remainder / p + (if (v.take i).any isPlaceholder = true then 0 else remainder % p)) }
           else e)

/-- The reset columns of R22, R26, R67, R68, R93, R112, R117, R125, R141, R166, R167, R173 and R178, the latch check
of R119 and the abandoned write of R153. That such a write has put down a first part of its bytes (Torn) is the
model's choice (log 3). The form of a pending restart is the model's (log 36), and so are the marks and the fields
before a configuration (log 2). -/
def Obligations.ResetInitialisesEveryBlock : Prop :=
  let initialised (isolations : Nat) (s t : State) : Prop :=
    FreshBlocks s t ∧ Torn s t ∧ t.pins = s.pins ∧ t.pending = s.pending ∧
      t.sup =
        { mode := .loading, reason := .noReason, address := none, listen := none, silence := none, fallback := none,
          clear := none, isolations := isolations } ∧
      t.calendar =
        (if s.calendar.oscStop = true then { minutes := 0, seconds := 0, valid := false, oscStop := false }
         else s.calendar)
  (∀ s : State, ∃ t, exec .powerOnReset s = .next t ∧ initialised 0 s t) ∧
  (∀ s : State, s.powered = true → ∃ t, exec .resetN s = .next t ∧ initialised 0 s t) ∧
  ∀ s : State, s.powered = true → s.service.restart ≠ none →
    (s.service.replyGone = true ∨ s.service.restart = some 0) →
    ∃ t, exec .restartTaken s = .next t ∧ initialised s.sup.isolations s t

/-- R119: the calendar and its latch, which run with or without the main supply; R153: a write that a loss of supply
abandons. That it has put down a first part of its bytes (Torn) is the choice of log 3. -/
def Obligations.SupplyAndCrystal : Prop :=
  (∀ s : State, s.powered = true →
    ∃ t, exec .powerLoss s = .next t ∧ t.powered = false ∧ t.calendar = s.calendar ∧ t.pins = s.pins ∧ Torn s t) ∧
  (∀ s : State, exec .oscillatorStop s = .next { s with calendar := { s.calendar with oscStop := true } }) ∧
  (∀ s : State, s.calendar.seconds < 59 →
    exec .calendarAdvance s = .next { s with calendar := { s.calendar with seconds := s.calendar.seconds + 1 } }) ∧
  (∀ s : State, s.calendar.seconds = 59 → s.calendar.minutes < 0xFFFFFFFE →
    exec .calendarAdvance s =
      .next { s with calendar := { s.calendar with seconds := 0, minutes := s.calendar.minutes + 1 } }) ∧
  ∀ s : State, s.calendar.seconds = 59 → s.calendar.minutes = 0xFFFFFFFE → exec .calendarAdvance s = .next s

/-- R1, R94, R112, R140, R153 to R155: the configuration block read. What the memory answers (its bytes, rewritten
bytes or nothing) is the operand of the step (log 7). -/
def Obligations.ConfigBlockIsTaken : Prop :=
  ∀ (s : State) (answer : MemAnswer), s.powered = true → s.sup.mode = .loading → s.loader.next = .config →
    s.TablesWhole →
    let bytes := (s.mem.nvm.answer 0 512 answer).2
    ∃ t, exec (.configBlockRead answer) s = .next t ∧
      t.mem = { s.mem with nvm := (s.mem.nvm.answer 0 512 answer).1 } ∧
      (crc16Good bytes = false → Keeps [.loader, .mem] s t ∧ t.loader = { s.loader with next := .groupRecord 0 }) ∧
      (crc16Good bytes = true →
        Keeps [.loader, .mem, .inputs, .line, .groups, .lums, .events] s t ∧ EventsKept [.routeFail] s t ∧
        t.loader = { s.loader with next := .groupRecord 0, figures := some (Figures.read bytes) } ∧
        t.inputs = { s.inputs with validation := (Figures.read bytes).validation } ∧
        t.line = { s.line with rate := (Figures.read bytes).rate } ∧
        (∀ n, n < 128 → t.lum n = { s.lum n with branch := branchOf (Figures.read bytes) n }) ∧
        (∀ g, g < 24 → t.group g = { s.group g with defn := (t.group g).defn } ∧
          (t.group g).defn = GroupDef.read bytes (0x0048 + 18 * g) (t.group g).defn.members ∧
          ∀ n, n ∈ (t.group g).defn.members ↔
            n ∈ namedMembers bytes (0x0048 + 18 * g) ∧ ∀ h, h < g → n ∉ namedMembers bytes (0x0048 + 18 * h)) ∧
        let unrouted (n : Nat) : Prop := ∃ g, g < 24 ∧ n ∈ (t.group g).defn.members ∧ (t.lum n).branch = none
        (∀ n, unrouted n → (∀ m, unrouted m → m ≤ n) → Occurs .routeFail (lumDetail n) s t) ∧
        ((∀ n, ¬ unrouted n) → t.events = s.events))

/-- R1, R2, R94, R154, R155 and the layout of section 9.2: the ranges of the configuration, the report selections, the
member runs and the branch ranges. -/
def Obligations.ConfigurationIsInRange : Prop :=
  let near (low high : Nat) (stored value : Nat) : Prop :=
    (stored < low → value = low) ∧ (high < stored → value = high) ∧ (low ≤ stored → stored ≤ high → value = stored)
  (∀ bytes : List Byte,
    let f := Figures.read bytes
    near 1 222 (byteAt bytes 0x00) f.address ∧
    f.rate = (if byteAt bytes 0x01 = 0 then .r2400 else if byteAt bytes 0x01 = 1 then .r4800 else .r9600) ∧
    near 2 10 (byteAt bytes 0x02) f.beacon ∧ near 1 4000 (fieldAt bytes 0x03 2) f.cap ∧
    near 1 4 (byteAt bytes 0x05) f.reducedLimit ∧ near 5 60 (byteAt bytes 0x06) f.silence ∧
    near 1 15 (byteAt bytes 0x07) f.isolationLimit ∧ (f.fallback = true ↔ byteAt bytes 0x08 ≠ 0) ∧
    near 1 30 (byteAt bytes 0x09) f.fallbackDays ∧ near 0 180 (byteAt bytes 0x0A) f.grace ∧
    near 1 60 (byteAt bytes 0x0B) f.validation ∧ near 10 240 (byteAt bytes 0x0C) f.sweepPeriod ∧
    near 0 127 (byteAt bytes 0x0D) f.aBase ∧ near 0 127 (byteAt bytes 0x0E) f.aLimit ∧
    near 0 127 (byteAt bytes 0x0F) f.bBase ∧ near 0 127 (byteAt bytes 0x10) f.bLimit ∧
    (∀ h, h < 168 → f.window.getD h false = (byteAt bytes (0x0011 + h / 8)).testBit (h % 8)) ∧
    (∀ k, k < 26 → f.mask.getD k false = (fieldAt bytes 0x0036 4).testBit k) ∧
    (∀ k, k < 26 →
      let packed := byteAt bytes (0x003A + k / 2)
      let nibble := if k % 2 = 0 then packed / 16 else packed % 16
      f.selection.getD k none = if 8 ≤ nibble ∧ nibble ≤ 11 then some (nibble - 8) else none) ∧
    (∀ i, i < 4 →
      let a := f.authorised.getD i ConsoleEntry.off
      let d := f.destinations.getD i ConsoleEntry.off
      a.address = bytes.getD (0x0027 + 2 * i) 0#8 ∧ d.address = bytes.getD (0x002F + 2 * i) 0#8 ∧
      (a.on = true ↔ byteAt bytes (0x0026 + 2 * i) ≠ 0 ∧ 224 ≤ a.address.toNat ∧ a.address.toNat ≤ 247) ∧
      (d.on = true ↔ byteAt bytes (0x002E + 2 * i) ≠ 0 ∧ 224 ≤ d.address.toNat ∧ d.address.toNat ≤ 247))) ∧
  (∀ (bytes : List Byte) (offset : Nat) (members : List Nat),
    let d := GroupDef.read bytes offset members
    d.members = members ∧ 1 ≤ d.home ∧ d.home ≤ 1023 ∧ d.neighbours.length ≤ 6 ∧
    (∀ z ∈ d.neighbours, 1 ≤ z ∧ z ≤ 1023) ∧ 30 ≤ d.minutes ∧ d.minutes ≤ 240 ∧ 4 ≤ d.rechargeHours ∧
    d.rechargeHours ≤ 48 ∧ 30 ≤ d.interval ∧ d.interval ≤ 730 ∧ d.early ≤ 60 ∧ d.early ≤ d.interval ∧
    near 30 240 (byteAt bytes (offset + 13)) d.minutes ∧ near 4 48 (byteAt bytes (offset + 14)) d.rechargeHours ∧
    near 30 730 (fieldAt bytes (offset + 15) 2) d.interval ∧
    d.early = min d.interval (min 60 (byteAt bytes (offset + 17))) ∧
    (offset + 18 ≤ bytes.length →
      let bit (p : Nat) : Bool := (byteAt bytes (offset + 4 + p / 8)).testBit (7 - p % 8)
      let zone (i : Nat) : Nat :=
        ((List.range 10).map (fun j => if bit (10 * i + j) = true then 2 ^ (9 - j) else 0)).sum
      d.home = max 1 (zone 0) ∧
      d.neighbours = ((List.range 6).map (fun i => zone (i + 1))).filter (fun z => decide (z ≠ 0)))) ∧
  (∀ (bytes : List Byte) (offset n : Nat),
    n ∈ namedMembers bytes offset ↔
      (min 127 (byteAt bytes offset) ≤ n ∧ n ≤ min 127 (byteAt bytes (offset + 1))) ∨
      (min 127 (byteAt bytes (offset + 2)) ≤ n ∧ n ≤ min 127 (byteAt bytes (offset + 3)))) ∧
  ∀ (f : Figures) (n : Nat),
    (branchOf f n = some .branchA ↔ f.aBase ≤ n ∧ n ≤ f.aLimit) ∧
    (branchOf f n = some .branchB ↔ ¬ (f.aBase ≤ n ∧ n ≤ f.aLimit) ∧ f.bBase ≤ n ∧ n ≤ f.bLimit)

/-- R26, R91, R153, R156 and the codes of section 9.2: the restore of a group from its record. That the recharge and
the claim record are set when the record is read, and not at the end of the load, is the model's inference (log 34).
-/
def Obligations.GroupRecordRestoresItsGroup : Prop :=
  StoredCodes ∧
  ∀ (s : State) (g ms : Nat) (answer : MemAnswer), s.powered = true → s.sup.mode = .loading → g < 24 →
    s.loader.next = .groupRecord g → s.TablesWhole →
    let read := s.mem.nvm.answer (0x0200 + 32 * g) 32 answer
    let bytes := read.2
    let gr := s.group g
    let phase := byteAt bytes 0
    let good := crc16Good bytes = true ∧ 1 ≤ phase ∧ phase ≤ 3
    let last := GResult.ofCode (byteAt bytes 5)
    let fails := min 7 (byteAt bytes 6)
    let held := decide (byteAt bytes 7 ≠ 0)
    let start := timeOf (fieldAt bytes 10 4)
    let failing : Option Nat := if byteAt bytes 14 ≤ 0x7F then some (byteAt bytes 14) else none
    let recovering : Option ClaimRecord := some { phase := .recovering, hold := none, refresh := none }
    let noted (r : List (Nat × Restored)) (t : State) : Prop := t.loader.restored = s.loader.restored ++ r
    ∃ t, exec (.groupRecordRead answer ms) s = .next t ∧
      t.loader.next = (if g < 23 then .groupRecord (g + 1) else .lumRecord 0) ∧
      t.loader.figures = s.loader.figures ∧
      t.mem = { s.mem with nvm := read.1 } ∧ OtherGroups g s t ∧
      Keeps [.loader, .mem, .groups, .events] (s.atMs ms) t ∧ EventsKept [.recordCrcError] s t ∧
      ((s.loader.figures = none ∨ gr.defn.members = []) → t.group g = gr ∧ t.events = s.events ∧ noted [] t) ∧
      (s.loader.figures ≠ none → gr.defn.members ≠ [] →
        (¬ good →
          t.group g =
            { gr with
              state := .recovering, lastTested := none, fails := 0, lastResult := none, held := false,
              recTestStart := none, recFirstFailing := none, firstFailing := none,
              recharge := some (60 * gr.defn.rechargeHours), claim := recovering, dirty := true } ∧
          Occurs .recordCrcError (groupDetail g) s t ∧ noted [(g, .damaged)] t) ∧
        (good → phase = 1 →
          t.group g =
            { gr with
              state := .idle, lastTested := timeOf (fieldAt bytes 1 4), fails := fails, lastResult := last,
              held := held, recTestStart := start, recFirstFailing := failing, claim := none } ∧
          t.events = s.events ∧ noted [] t) ∧
        (good → phase = 2 →
          t.group g =
            { gr with
              state := .recovering, lastTested := timeOf (fieldAt bytes 1 4), fails := min 7 (fails + 1),
              lastResult := some .abortedRestart, held := held, recTestStart := start, recFirstFailing := none,
              firstFailing := none, recharge := some (60 * gr.defn.rechargeHours), claim := recovering,
              dirty := true } ∧
          t.events = s.events ∧ noted [(g, .storedTesting)] t) ∧
        (good → phase = 3 →
          t.group g =
            { gr with
              state := .recovering, lastTested := timeOf (fieldAt bytes 1 4), fails := fails, lastResult := last,
              held := held, recTestStart := start, recFirstFailing := failing, firstFailing := failing,
              recharge := some (min 2880 (fieldAt bytes 8 2)), claim := recovering } ∧
          t.events = s.events ∧ noted [(g, .storedRecovering)] t))

/-- R153, R157 and the codes of section 9.2: the restore of a luminaire from its record. -/
def Obligations.LuminaireRecordRestoresItsLuminaire : Prop :=
  StoredCodes ∧
  ∀ (s : State) (n ms : Nat) (answer : MemAnswer), s.powered = true → s.sup.mode = .loading → n < 127 →
    s.loader.next = .lumRecord n → s.TablesWhole →
    let read := s.mem.nvm.answer (0x0800 + 32 * n) 32 answer
    let bytes := read.2
    ∃ t, exec (.luminaireRecordRead answer ms) s = .next t ∧
      t.loader = { s.loader with next := .lumRecord (n + 1) } ∧
      t.mem = { s.mem with nvm := read.1 } ∧ OtherLums n s t ∧
      Keeps [.loader, .mem, .lums, .events] (s.atMs ms) t ∧ EventsKept [.recordCrcError] s t ∧
      (s.loader.figures = none → t.lum n = s.lum n ∧ t.events = s.events) ∧
      (s.loader.figures ≠ none → crc16Good bytes = true →
        t.events = s.events ∧
        t.lum n =
          { s.lum n with
            record :=
              { time := timeOf (fieldAt bytes 0 4), result := LResult.ofCode (byteAt bytes 4),
                achieved := byteAt bytes 5, volts := bytes.getD 6 0#8, faults := bytes.getD 7 0#8,
                next := if byteAt bytes 8 ≤ 7 then byteAt bytes 8 else 0, count := min 8 (byteAt bytes 9) } }) ∧
      (s.loader.figures ≠ none → crc16Good bytes = false →
        t.lum n =
          { s.lum n with
            record :=
              { time := none, result := none, achieved := 0, volts := 0#8, faults := 0#8, next := 0, count := 0 }
            dirty := true } ∧
        ((∃ g, g < 24 ∧ n ∈ (s.group g).defn.members) → Occurs .recordCrcError (lumDetail n) s t) ∧
        ((¬ ∃ g, g < 24 ∧ n ∈ (s.group g).defn.members) → t.events = s.events))

/-- R26, R31, R45, R91, R104, R120, R126 to R128, R141, R154, R157, R158, R167, R173: the end of LOADING. The order of
the steps inside it, the statuses that the reports go by and the minute they carry are the model's choice (log 17). -/
def Obligations.LoadEndsInListeningOrUnconfigured : Prop :=
  StoredCodes ∧
  ∀ (s : State) (answer : MemAnswer) (ms : Nat), s.powered = true → s.sup.mode = .loading →
    s.loader.next = .lumRecord 127 → s.TablesWhole → s.ClaimLaw → s.ProposalLaw →
    let read := s.mem.nvm.answer (0x0800 + 32 * 127) 32 answer
    let bytes := read.2
    let aborted (n : Nat) : Prop := ∃ g, (g, Restored.storedTesting) ∈ s.loader.restored ∧ n ∈ (s.group g).defn.members
    let member := ∃ g, g < 24 ∧ 127 ∈ (s.group g).defn.members
    let restored := (List.range 24).filter (fun g => decide ((s.group g).state = .recovering))
    let announced (g : Nat) : TxFrame :=
      .claim g
        { phase := .recovering, urgency := (s.group g).claimUrgency, weight := (s.group g).defn.members.length,
          remaining := (s.group g).recharge.getD 0, home := (s.group g).defn.home,
          neighbours := (s.group g).defn.neighbours }
    ∃ t, exec (.luminaireRecordRead answer ms) s = .next t ∧ t.loader = { s.loader with next := .done } ∧
      t.clock = (s.atMs ms).clock ∧
      t.mem = { s.mem with nvm := read.1 } ∧
      (∀ f, s.loader.figures = some f →
        Keeps [.loader, .mem, .figures, .service, .sup, .beacon, .loop, .line, .groups, .lums, .events, .overrun] (s.atMs ms) t ∧
        t.figures = f ∧ t.calendar = s.calendar ∧
        t.service = { s.service with authorised := f.authorised, replyGone := s.restartGone t } ∧
        t.loop =
          { s.loop with
            sweepCountdown := some f.sweepPeriod
            a := { s.loop.a with sweep := some (s.loop.a.sweep.getD 0) }
            b := { s.loop.b with sweep := some (s.loop.b.sweep.getD 0) } } ∧
        t.sup =
          { mode := .listening, reason := .noReason, address := some f.address,
            listen := some ((2 * f.beacon + 1) * 60), silence := some (f.silence * 60), fallback := none, clear := none,
            isolations := s.sup.isolations } ∧
        t.beacon = some f.beacon ∧
        t.line.draw = some (BitVec.ofNat 16 (f.address * 256 + f.address)) ∧ t.memoryReleased = false ∧
        (∀ n, n < 127 →
          (aborted n → t.lum n = { s.lum n with test := .aborted, endOwed := (s.lum n).branch.isSome }) ∧
          (¬ aborted n → t.lum n = s.lum n)) ∧
        t.lum 127 =
          { s.lum 127 with
            test := (t.lum 127).test, endOwed := (t.lum 127).endOwed, dirty := (t.lum 127).dirty,
            record := (t.lum 127).record } ∧
        (aborted 127 → (t.lum 127).test = .aborted ∧ (t.lum 127).endOwed = (s.lum 127).branch.isSome) ∧
        (¬ aborted 127 → (t.lum 127).test = (s.lum 127).test ∧ (t.lum 127).endOwed = (s.lum 127).endOwed) ∧
        (crc16Good bytes = true →
          (t.lum 127).dirty = (s.lum 127).dirty ∧
          (t.lum 127).record =
            { time := timeOf (fieldAt bytes 0 4), result := LResult.ofCode (byteAt bytes 4),
              achieved := byteAt bytes 5, volts := bytes.getD 6 0#8, faults := bytes.getD 7 0#8,
              next := if byteAt bytes 8 ≤ 7 then byteAt bytes 8 else 0, count := min 8 (byteAt bytes 9) }) ∧
        (crc16Good bytes = false →
          (t.lum 127).dirty = true ∧
          (t.lum 127).record =
            { time := none, result := none, achieved := 0, volts := 0#8, faults := 0#8, next := 0, count := 0 } ∧
          (member → (t.events.cell Event.recordCrcError.number).raw = true)) ∧
        ((∃ g, (g, Restored.storedTesting) ∈ s.loader.restored) →
          (t.events.cell Event.testAborted.number).raw = true ∧
          ∃ g, (g, Restored.storedTesting) ∈ s.loader.restored ∧
            (t.events.cell Event.testAborted.number).detail = groupDetail g) ∧
        (s.calendar.valid = false →
          let c := t.events.cell Event.timeInvalid.number
          c.raw = true ∧ c.detail = noDetail ∧ (f.mask.getD Event.timeInvalid.number false = false → c.status = true)) ∧
        (∀ e : Event, (e ≠ .timeInvalid ∨ s.calendar.valid = true) →
          (e ≠ .recordCrcError ∨ crc16Good bytes = true ∨ ¬ member) →
          (e ≠ .testAborted ∨ ∀ g, (g, Restored.storedTesting) ∉ s.loader.restored) → e ≠ .loadOver → e ≠ .reportOverrun →
          t.events.cell e.number =
            { s.events.cell e.number with
              mask := f.mask.getD e.number false, push := f.selection.getD e.number none
              status := (s.events.cell e.number).status && !f.mask.getD e.number false }) ∧
        t.events.destinations = f.destinations ∧
        (∀ k, k < 26 →
          let c := t.events.cell k
          let d := s.events.cell k
          c.mask = f.mask.getD k false ∧ c.push = f.selection.getD k none ∧ (d.raw = true → c.raw = true) ∧
          (f.mask.getD k false = true → c.status = false) ∧
          (f.mask.getD k false = false → d.status = true → c.status = true)) ∧
        (crc16Good bytes = true ∨ ¬ member →
          ∀ due : List (Nat × Byte),
            (∀ k a, (k, a) ∈ due ↔ k < 26 ∧ (s.events.cell k).status = true ∧ f.mask.getD k false = false ∧
              ∃ i, f.selection.getD k none = some i ∧ (f.destinations.getD i ConsoleEntry.off).on = true ∧
                (f.destinations.getD i ConsoleEntry.off).address = a) →
            due.Pairwise (fun x y => x.1 < y.1) → s.events.reports.length + due.length ≤ 8 →
            s.events.reports ++
                due.map (fun x =>
                  { event := x.1, detail := (s.events.cell x.1).detail, minutes := s.calendar.minutes, console := x.2 }) <+:
              t.events.reports) ∧
        (t.overrun = true ↔
          (∃ g, g < 24 ∧ (t.group g).state.past = true) ∧ f.cap < s.viewLoad + t.ownWeight) ∧
        (s.line.waiting = [] → s.line.current = none → s.line.backlog = [] →
          t.line =
            { s.line with
              draw := t.line.draw
              waiting := if restored.length < 12 then .beacon :: restored.map announced else (restored.map announced).take 12
              backlog := (restored.map announced).drop 12 }) ∧
        (∀ g, (s.group g).state ≠ .recovering → t.group g = s.group g) ∧
        ∀ g ∈ restored,
          Waits (announced g) t ∧
          ∃ c, (s.group g).claim = some c ∧ t.group g = { s.group g with claim := some { c with refresh := some 60 } }) ∧
      (s.loader.figures = none →
        t.sup = { s.sup with mode := .unconfigured, address := some 223 } ∧
        t.calendar = { s.calendar with valid := false } ∧ t.groups = s.groups ∧ t.lums = s.lums ∧
        t.memoryReleased = true ∧ Keeps [.loader, .mem, .sup, .calendar, .line, .events] (s.atMs ms) t ∧
        Occurs .configInvalid noDetail s t ∧ Occurs .timeInvalid noDetail s t ∧
        EventsKept [.configInvalid, .timeInvalid] s t ∧
        t.line = { s.line with draw := some (BitVec.ofNat 16 (223 * 256 + 223)) })

/-- R26, R42, R55, R61, R111, R114, R119, R129, R131, R135, R151, R178: what a tick second counts. That an entry
stands at age 300 until ENTRY_AGE_OUT is taken is the model's choice (log 42). The marks minuteDue and passDue are the
model's own (log 11). That the minute mark and every countdown go on at the tick's largest value is the model's
inference (log 23). -/
def Obligations.TickSecondCounts : Prop :=
  ∀ s : State, s.powered = true → s.events.cells.length = 26 →
    let down : Option Nat → Option Nat := fun c => c.map (fun k => k - 1)
    let minute := decide (s.clock.secondOfMinute = 59)
    ∃ t, exec .tickSecond s = .next t ∧
      Keeps [.clock, .calendar, .inputs, .sup, .groups, .view, .overflow, .line, .service, .events] s t ∧
      t.clock =
        { seconds := min 4294967295 (s.clock.seconds + 1), ms := 0,
          secondOfMinute := (s.clock.secondOfMinute + 1) % 60,
          minuteDue := s.clock.minuteDue || minute,
          passDue := s.clock.passDue || (minute && s.sup.mode.configured) } ∧
      t.sup =
        { s.sup with
          listen := if s.sup.mode = .listening then down s.sup.listen else s.sup.listen
          silence := if s.sup.mode.configured = true then down s.sup.silence else s.sup.silence
          clear := if s.sup.mode = .coordinating then down s.sup.clear else s.sup.clear
          fallback :=
            if s.sup.mode = .isolated ∧ s.sup.reason = .silence then
              s.sup.fallback.map (fun k => min (s.figures.fallbackDays * 86400) (k + 1))
            else s.sup.fallback } ∧
      (∀ g, (s.group g).claim = none → t.group g = s.group g) ∧
      (∀ g c, (s.group g).claim = some c →
        t.group g =
          { s.group g with
            claim :=
              some
                { c with
                  hold := c.hold.map (fun h => match h with | .awaiting => .awaiting | .running e => .running (min 30 (e + 1)))
                  refresh := down c.refresh } }) ∧
      t.view = s.view.map (fun e => { e with age := min 300 (e.age + 1) }) ∧
      t.overflow = down s.overflow ∧ t.line = { s.line with cut := down s.line.cut } ∧
      t.service = { s.service with restart := down s.service.restart } ∧
      t.inputs =
        { s.inputs with
          outageTimer :=
            if s.inputs.mains = .off then min 3932100 (s.inputs.outageTimer + 1) else s.inputs.outageTimer } ∧
      (s.calendar.oscStop = false → t.calendar = s.calendar ∧ t.events = s.events) ∧
      (s.calendar.oscStop = true →
        t.calendar = { minutes := 0, seconds := 0, valid := false, oscStop := false } ∧
        Occurs .timeInvalid noDetail s t ∧ EventsKept [.timeInvalid] s t)

/-- R31, R56, R87, R104, R111, R116, R118, R159: what a minute tick counts. -/
def Obligations.MinuteTickCounts : Prop :=
  ∀ s : State, s.powered = true → s.clock.minuteDue = true →
    let down : Option Nat → Option Nat := fun c => c.map (fun k => k - 1)
    let recharges := s.inputs.mains = .on ∧ s.sup.mode ≠ .loading
    ∃ t, exec .minuteTick s = .next t ∧
      Keeps [.clock, .beacon, .loop, .groups, .inputs, .view] s t ∧
      t.clock = { s.clock with minuteDue := false } ∧
      t.beacon = (if s.sup.mode.configured = true then down s.beacon else s.beacon) ∧
      t.loop = { s.loop with sweepCountdown := down s.loop.sweepCountdown } ∧
      (∀ g, (¬ recharges ∨ (s.group g).state ≠ .recovering ∨ (s.group g).recharge = none) → t.group g = s.group g) ∧
      (∀ g k, recharges → (s.group g).state = .recovering → (s.group g).recharge = some k →
        t.group g =
          { s.group g with
            recharge := some (k - 1)
            rechargeDue := (s.group g).rechargeDue || decide (k ≤ 1)
            dirty := (s.group g).dirty || decide (0 < k - 1 ∧ (k - 1) % 60 = 0) }) ∧
      t.inputs =
        { s.inputs with
          outageHold := if s.inputs.mains = .on then s.inputs.outageHold - 1 else s.inputs.outageHold
          stuck := if s.inputs.inhibit = .active then min 10080 (s.inputs.stuck + 1) else s.inputs.stuck
          stuckDue := s.inputs.stuckDue || decide (s.inputs.inhibit = .active ∧ s.inputs.stuck = 10079) } ∧
      t.view =
        s.view.map (fun e =>
          match e.full with
          | some f =>
            { e with
              full := some { f with remaining := f.remaining - 1 }
              rechargeEnded := decide (e.phase = .recovering ∧ f.remaining - 1 = 0) }
          | none => e)

/-- R16, R39, R129, R130, R132, R134 to R136: the expiries of the supervisor's countdowns. -/
def Obligations.SupervisorExpiries : Prop :=
  (∀ s : State, s.powered = true → s.sup.mode = .listening → s.sup.listen = some 0 →
    ∃ t, exec .listenExpiry s = .next t ∧ Keeps [.sup] s t ∧
      t.sup = { s.sup with mode := .coordinating, listen := none, clear := some 86400 }) ∧
  (∀ s : State, s.powered = true → s.sup.mode = .coordinating → s.sup.clear = some 0 →
    ∃ t, exec .clearTimerExpiry s = .next t ∧ Keeps [.sup] s t ∧
      t.sup = { s.sup with isolations := 0, clear := none }) ∧
  (∀ (s : State) (idle : Bool), s.powered = true → (s.sup.mode = .listening ∨ s.sup.mode = .coordinating) → s.sup.silence = some 0 →
    s.TablesWhole → 1 ≤ s.figures.fallbackDays →
    ∃ t, exec (.silenceExpiry idle) s = .next t ∧
      Keeps [.groups, .line, .events, .service, .overrun, .sup] s t ∧ RestartNoted s t ∧
      EventsKept [.isolated, .loadOver, .standaloneEntered] s t ∧
      Occurs .isolated noDetail s t ∧ WithdrawnLatch s t ∧
      (∀ g, (s.group g).state = .proposed → Withdrawn g s t ∧ Waits (.release g .withdrawn) t) ∧
      (∀ g, (s.group g).state ≠ .proposed → t.group g = s.group g) ∧
      (if s.figures.fallback = true ∧ s.figures.isolationLimit ≤ min 15 (s.sup.isolations + 1) then
        Occurs .standaloneEntered noDetail s t ∧
        t.sup =
          { s.sup with
            mode := .standalone, reason := .noReason, listen := none, clear := none, fallback := none,
            isolations := min 15 (s.sup.isolations + 1) }
       else
        t.events.cell Event.standaloneEntered.number = s.events.cell Event.standaloneEntered.number ∧
        t.sup =
          { s.sup with
            mode := .isolated, reason := .silence, listen := none, clear := none, fallback := some 0,
            isolations := min 15 (s.sup.isolations + 1) })) ∧
  ∀ s : State, s.powered = true → s.sup.mode = .isolated → s.sup.reason = .silence → s.figures.fallback = true →
    (s.figures.isolationLimit ≤ s.sup.isolations ∨ s.sup.fallback = some (s.figures.fallbackDays * 86400)) →
    s.events.cells.length = 26 →
    ∃ t, exec .fallbackExpiry s = .next t ∧ Keeps [.sup, .events] s t ∧
      Occurs .standaloneEntered noDetail s t ∧ EventsKept [.standaloneEntered] s t ∧
      t.sup = { s.sup with mode := .standalone, reason := .noReason, fallback := none }

/-- R31, R61, R104, R116, R118 and R16: the expiries that one block alone takes. That BACKOFF_EXPIRY and
OUTAGE_HOLD_EXPIRY have no further effect is the model's inference from R5, R10 and R40 (log 21). -/
def Obligations.MarkedExpiries : Prop :=
  (∀ (s : State) (g : Nat), exec (.backoffExpiry g) s = .next s) ∧
  (∀ s : State, exec .outageHoldExpiry s = .next s) ∧
  (∀ s : State, s.powered = true → s.overflow = some 0 →
    ∃ t, exec .overflowHoldExpiry s = .next t ∧ t.overflow = none ∧ Keeps [.overflow] s t) ∧
  (∀ s : State, s.powered = true → s.inputs.stuckDue = true → s.events.cells.length = 26 →
    ∃ t, exec .inhibitStuck s = .next t ∧ t.inputs = { s.inputs with stuckDue := false } ∧
      Occurs .inhibitStuck noDetail s t ∧ EventsKept [.inhibitStuck] s t ∧ Keeps [.inputs, .events] s t) ∧
  (∀ s : State, s.powered = true → s.sup.mode.configured = true → s.beacon = some 0 →
    ∃ t, exec .beaconCountdownExpiry s = .next t ∧ t.beacon = some s.figures.beacon ∧
      Keeps [.beacon, .line, .events, .service] s t ∧ RestartNoted s t ∧ EventsKept [] s t ∧
      (TxFrame.beacon ∈ s.line.waiting → t.line = s.line ∧ t.events = s.events) ∧
      (TxFrame.beacon ∉ s.line.waiting → s.line.size < 12 →
        t.line = { s.line with waiting := s.line.waiting ++ [.beacon] } ∧ t.events = s.events)) ∧
  ∀ s : State, s.powered = true → s.loop.sweepCountdown = some 0 →
    ∃ t, exec .sweepStart s = .next t ∧ Keeps [.loop] s t ∧
      t.loop =
        { s.loop with
          a := { s.loop.a with sweep := some (s.loop.a.sweep.getD 0) }
          b := { s.loop.b with sweep := some (s.loop.b.sweep.getD 0) }
          sweepCountdown := some s.figures.sweepPeriod }

/-- R3, R4, R12, R27, R40 to R42, R69 to R71, R90: the entry into TESTING at the expiry of a hold. That the round
number is that of the round last made is the model's inference (log 43). -/
def Obligations.HoldExpiryStartsTheTest : Prop :=
  ∀ (s : State) (g ms : Nat) (c : ClaimRecord), s.powered = true → (s.group g).state = .proposed →
    (s.group g).claim = some c → c.hold = some (.running 30) → s.HoldMayTest g → (s.group g).defn.members.Nodup →
    let gr := s.group g
    ∃ t, exec (.holdExpiry g ms) s = .next t ∧
      Keeps [.groups, .lums, .line, .events, .service] (s.atMs ms) t ∧ OtherGroups g s t ∧
      RestartNoted s t ∧ EventsKept [] s t ∧
      t.group g =
        { gr with
          state := .testing, forced := false, dirty := true,
          claim := some { phase := .testing, hold := none, refresh := some 60 },
          testStart := some { tick := t.now, minute := s.calendar.minutes },
          recTestStart := some s.calendar.minutes, firstFailing := none, round := some 1 } ∧
      Offered
        (.claim g
          { phase := .testing, urgency := gr.claimUrgency, weight := gr.defn.members.length,
            remaining := gr.defn.minutes + 60 * gr.defn.rechargeHours, home := gr.defn.home,
            neighbours := gr.defn.neighbours }) s.line t ∧
      (∀ n, n ∉ gr.defn.members → t.lum n = s.lum n) ∧
      ∀ n ∈ gr.defn.members,
        (s.CanTest n →
          t.lum n =
            { s.lum n with
              test := .pendingStart, startCount := 1, ownStart := none, lastGood := none, achieved := 0,
              request :=
                if (s.lum n).request = none ∧ s.testInFlight n .start = false then some .start
                else (s.lum n).request }) ∧
        (¬ s.CanTest n → n < s.lums.length → t.lum n = { s.lum n with test := .excluded })

/-- R16, R29, R33, R40, R48: the withdrawal of a group whose hold expires with a check failed. That a queue which the
withdrawal empties and its RELEASE fills again has become empty, so that the slot wait begins anew
(Line.afterWithdrawal), is the model's choice (log 40). -/
def Obligations.HoldExpiryWithdrawsTheGroup : Prop :=
  ∀ (s : State) (g ms : Nat) (c : ClaimRecord), s.powered = true → (s.group g).state = .proposed →
    (s.group g).claim = some c → c.hold = some (.running 30) → ¬ s.HoldMayTest g →
    ∃ t, exec (.holdExpiry g ms) s = .next t ∧
      Keeps [.groups, .line, .events, .service, .overrun] (s.atMs ms) t ∧ OtherGroups g s t ∧
      RestartNoted s t ∧ EventsKept [.loadOver] s t ∧ Withdrawn g s t ∧ Waits (.release g .aborted) t ∧ Relatched s t ∧
      (s.line.size < 12 → s.line.backlog = [] → t.line = s.line.afterWithdrawal g .aborted) ∧
      ∀ b : ClaimBody, b.phase = .proposed →
        ¬ Waits (.claim g b) t ∧ ∀ k, t.line.current = some k → k.frame ≠ .claim g b

/-- R27, R42: the refresh of a claim. -/
def Obligations.RefreshRepeatsTheClaim : Prop :=
  ∀ (s : State) (g ms : Nat) (c : ClaimRecord), s.powered = true → (s.group g).claim = some c →
    ((s.group g).state = .testing ∨ (s.group g).state = .recovering) → c.refresh = some 0 →
    let gr := s.group g
    ∃ t, exec (.refreshExpiry g ms) s = .next t ∧
      Keeps [.groups, .line, .events, .service] (s.atMs ms) t ∧ OtherGroups g s t ∧
      RestartNoted s t ∧ EventsKept [] s t ∧
      t.group g = { gr with claim := some { c with refresh := some 60 } } ∧
      (c.phase = .testing → ∀ start, gr.testStart = some start →
        Offered
          (.claim g
            { phase := .testing, urgency := gr.claimUrgency, weight := gr.defn.members.length,
              remaining := gr.defn.minutes + 60 * gr.defn.rechargeHours - (t.now - start.tick) / 60000,
              home := gr.defn.home, neighbours := gr.defn.neighbours }) s.line t) ∧
      (c.phase = .recovering → ∀ k, gr.recharge = some k →
        Offered
          (.claim g
            { phase := .recovering, urgency := gr.claimUrgency, weight := gr.defn.members.length, remaining := k,
              home := gr.defn.home, neighbours := gr.defn.neighbours }) s.line t)

/-- R21, R29, R44, R48, R87: the end of a recharge. The mark, the wait for mains and the age and urgency left as they
were are the model's (log 11, log 25, log 14), and so is that a queue emptied and filled again has become empty (log
40). -/
def Obligations.RechargeCompletes : Prop :=
  ∀ (s : State) (g : Nat) (idle : Bool), s.powered = true → (s.group g).state = .recovering → (s.group g).rechargeDue = true →
    s.inputs.mains = .on →
    ∃ t, exec (.rechargeComplete g idle) s = .next t ∧
      Keeps [.groups, .line, .events, .service, .overrun] s t ∧ OtherGroups g s t ∧
      RestartNoted s t ∧ EventsKept [.loadOver] s t ∧
      t.group g =
        { s.group g with
          state := if s.urgencyNow (s.group g) = 0 then .idle else .due
          dirty := true, claim := none, backoff := 0, recharge := none, rechargeDue := false, firstFailing := none } ∧
      Relatched s t ∧
      (let l := (drawnWhileIdle idle s).line
       let left := l.waiting.filter (fun f => match f with | .claim h _ => decide (h ≠ g) | _ => true)
       Offered (.release g .complete)
        { l with waiting := left, slot := if left = [] ∧ l.current = none then none else l.slot } t) ∧
      ∀ b : ClaimBody, ¬ Waits (.claim g b) t

/-- R21, R43, R70, R71, R73, R77, R79 to R81, R89: a poll round of a TESTING group. That only the test engine's own
START or PROBE counts as in flight (testInFlight) is the model's inference (log 32), that a round falls 60 s to the
millisecond after the start stamp its reading (log 39), and that the round number rises when the round is made its
inference (log 43). -/
def Obligations.PollRoundActsOnEachMember : Prop :=
  ∀ (s : State) (g ms r : Nat) (start : TestStart), s.powered = true → (s.group g).state = .testing →
    (s.group g).testStart = some start → (s.group g).round = some r → (s.group g).defn.members.Nodup →
    start.tick + 60000 * r ≤ (s.atMs ms).now →
    let gr := s.group g
    let members := gr.defn.members
    let fails (n : Nat) : Prop :=
      (s.lum n).test = .pendingStart ∧ 3 ≤ (s.lum n).startCount ∧ s.testInFlight n .start = false
    ∃ u t, exec (.pollRound g ms) s = .next t ∧ Keeps [.groups, .lums] (s.atMs ms) u ∧ OtherGroups g s u ∧
      (∀ n, n ∉ members → u.lum n = s.lum n) ∧
      (∀ n ∈ members,
        let l := s.lum n
        (l.test = .pendingStart → l.startCount < 3 →
          u.lum n =
            { l with
              startCount := l.startCount + 1
              request :=
                if s.branchDown n = false ∧ l.request = none ∧ s.testInFlight n .start = false then some .start
                else l.request }) ∧
        (l.test = .pendingStart → 3 ≤ l.startCount → s.testInFlight n .start = true → u.lum n = l) ∧
        (fails n → u.lum n = { l with test := .noReply, achieved := 0, endOwed := true, request := none }) ∧
        (l.test = .discharging →
          u.lum n =
            { l with
              request := if l.request = none ∧ s.testInFlight n .probe = false then some .probe else l.request }) ∧
        (l.test.live = false → u.lum n = l)) ∧
      ((∀ n ∈ members, ¬ fails n) → u.group g = { gr with round := some (r + 1) }) ∧
      (∀ before n after, members = before ++ n :: after → fails n → (∀ m ∈ before, ¬ fails m) →
        u.group g = { gr with round := some (r + 1), firstFailing := some (gr.firstFailing.getD n) }) ∧
      Checked g u t

/-- R21, R42, R43, R76, R77, R80, R81, R89, R90, R161, R164: the end instant of a member, and the conclusion of a test
(Concludes). That the T minutes are counted to the millisecond from the start stamp is the model's reading (log 39).
-/
def Obligations.EndInstantPassesTheMember : Prop :=
  ∀ (s : State) (n g ms o : Nat) (start : TestStart), s.powered = true → s.groupOf n = some g →
    (s.group g).state = .testing → (s.group g).testStart = some start →
    (s.lum n).test = .discharging → (s.lum n).ownStart = some o → (s.group g).defn.members.Nodup →
    o + 60000 * (s.group g).defn.minutes ≤ (s.atMs ms).now →
    let gr := s.group g
    ∃ u t, exec (.endInstant n ms) s = .next t ∧ Keeps [.lums] (s.atMs ms) u ∧ OtherLums n s u ∧
      u.lum n = { s.lum n with test := .passed, achieved := gr.defn.minutes, endOwed := true, request := none } ∧
      ((∃ m ∈ gr.defn.members, m ≠ n ∧ (s.lum m).test.live = true) → Keeps [] u t) ∧
      ((∀ m ∈ gr.defn.members, m ≠ n → (s.lum m).test.live = false) →
        Concludes g u t ∧ ∃ x, (t.group g).lastResult = some x ∧
          (t.group g).lastTested = (if x = .noResponse then gr.lastTested else some start.minute))

/-- R33, R35 to R37, R43, R46 to R48, R51 to R53, R62, R82, R89, R131: a CLAIM received, what it does to the own
groups that it conflicts with, and the load steps after it. That the supervisor takes the frame first is the model's
choice (log 16), and that the overrun latch is evaluated once, in the last step, its reading (log 15). -/
def Obligations.ClaimIsTakenIntoTheView : Prop :=
  (∀ p : List Byte, ReadsClaim p) ∧
  ∀ (s : State) (src dst : Byte) (payload : List Byte) (ms : Nat) (c : ClaimFrame), s.HearsPeer src dst →
    ClaimFrame.read payload = some c → s.events.cells.length = 26 →
    let x := src.toNat
    let mask := s.conflictMask c.full.home c.full.neighbours
    let e : Entry :=
      { station := x, group := c.group, phase := c.phase, weight := c.weight, age := 0, mask := mask,
        full := some c.full, rechargeEnded := false }
    let key : Entry → Bool := fun f => decide (f.station = x ∧ f.group = c.group)
    let j : Judged :=
      { station := x, group := c.group, phase := c.phase, urgency := some c.full.urgency, mask := mask,
        previous := (s.view.find? key).bind (fun f => if f.full = none then none else some f.phase) }
    let last (p : Nat → Prop) (g : Nat) : Prop := p g ∧ ∀ h, p h → h ≤ g
    ∃ t w u, exec (.claimReceived src dst payload ms) s = .next t ∧
      Delivered (s.atMs ms) w ∧ w.view = t.view ∧ w.overflow = t.overflow ∧ JudgeStep j w u ∧ LoadSteps u t ∧
      t.sup.silence = some (s.figures.silence * 60) ∧ RestartNoted s t ∧
      (s.view.any key = true → t.view = s.view.map (fun f => if key f = true then e else f) ∧ t.overflow = s.overflow) ∧
      (s.view.any key = false → s.view.length < 48 → t.view = s.view ++ [e] ∧ t.overflow = s.overflow) ∧
      (s.view.any key = false → 48 ≤ s.view.length →
        t.view = s.view ∧ t.overflow = some 300 ∧ Occurs .peerViewFull (groupDetail c.group) s t) ∧
      ((s.view.any key = true ∨ s.view.length < 48) →
        t.events.cell Event.peerViewFull.number = s.events.cell Event.peerViewFull.number) ∧
      (∀ g, s.Yields j g → Withdrawn g s t ∧ Waits (.release g .withdrawn) t) ∧
      (∀ g ∈ mask, (s.group g).state = .proposed → ¬ s.Yields j g → ¬ s.Relistens →
        t.viewLoad + s.ownWeight ≤ s.figures.cap → t.group g = s.group g) ∧
      (∀ g, s.Stops j g → EndsEarly g .abortedConflict true s t) ∧
      (∀ g, (s.group g).state ≠ .proposed → ¬ s.Stops j g → t.group g = s.group g) ∧
      (∀ g, last (s.Stops j) g → Occurs .testAborted (groupDetail g) s t) ∧
      (∀ g, last (s.Late j) g → Occurs .conflictLate (groupDetail g) s t) ∧
      ((∀ g, ¬ s.Stops j g) → t.events.cell Event.testAborted.number = s.events.cell Event.testAborted.number) ∧
      ((∀ g, ¬ s.Late j g) → t.events.cell Event.conflictLate.number = s.events.cell Event.conflictLate.number) ∧
      Keeps
        [.sup, .groups, .lums, .mem, .line, .events, .service, .overrun, .view, .overflow] (s.atMs ms) t

/-- R28, R35, R37, R48, R54 to R56, R128, R131, R138: entries leave the view, and the load steps that each removal
calls for. That an entry stands in the view at age 300 until ENTRY_AGE_OUT is taken is the model's choice (log 42).
The mark rechargeEnded is the model's own (log 11), and that a frame reaches the supervisor before the peer view is
its choice (log 16). That the withdrawals of one judgement leave the overrun latch to its last step is the model's
reading (log 15). -/
def Obligations.EntriesLeaveTheView : Prop :=
  (∀ u : State, LoadSteps u (loadSteps u)) ∧ (∀ p : List Byte, ReadsRelease p) ∧
  (∀ (s : State) (src dst : Byte) (payload : List Byte) (ms : Nat) (r : ReleaseFrame), s.HearsPeer src dst →
    ReleaseFrame.read payload = some r →
    let key : Entry → Bool := fun e => decide (e.station = src.toNat ∧ e.group = r.group)
    ∃ t u, exec (.releaseReceived src dst payload ms) s = .next t ∧
      t.sup = u.sup ∧ t.sup.silence = some (s.figures.silence * 60) ∧
      t.view = s.view.filter (fun e => !key e) ∧
      Keeps [.sup, .groups, .line, .events, .service, .overrun, .view] (s.atMs ms) t ∧ RestartNoted s t ∧
      Delivered (s.atMs ms) u ∧ u.view = s.view ∧ u.overflow = s.overflow ∧
      u.events.cell Event.peerViewFull.number = s.events.cell Event.peerViewFull.number ∧
      (¬ s.Relistens → u.events = s.events) ∧
      (s.view.any key = true → LoadSteps { u with view := s.view.filter (fun e => !key e) } t) ∧
      (s.view.any key = false → Keeps [] u t)) ∧
  (∀ (s : State) (before after : List Entry) (e : Entry), s.powered = true → s.ViewLaw → s.view = before ++ e :: after →
    (∀ f ∈ before, f.age < 300) → 300 ≤ e.age →
    ∃ t, exec .entryAgeOut s = .next t ∧ t.view = before ++ after ∧
      Keeps [.groups, .line, .events, .service, .overrun, .view] s t ∧ RestartNoted s t ∧
      LoadSteps { s with view := before ++ after } t) ∧
  (∀ s : State, (∀ e ∈ s.view, e.age < 300) → exec .entryAgeOut s = .next s) ∧
  ∀ s : State, s.powered = true → s.ViewLaw →
    let ended := s.view.filter Entry.rechargeEnded
    let left (k : Nat) : List Entry := s.view.filter (fun e => !(ended.take (k + 1)).contains e)
    ∃ t, exec .peerRechargeEnd s = .next t ∧ t.view = s.view.filter (fun e => !e.rechargeEnded) ∧
      Keeps [.groups, .line, .events, .service, .overrun, .view] s t ∧ RestartNoted s t ∧
      LoadStepsFor ((List.range ended.length).map left) s t

/-- R28, R35, R36, R46, R57 to R61, R63, R122, R131: a BEACON received, and what its changes do to the own groups.
That the supervisor takes the frame first and the calendar last is the model's choice (log 16). That the reports of
the held entries come before those of the new placeholders is its reading (log 28). The overrun latch is evaluated
once for each report (log 15). -/
def Obligations.BeaconIsReconciledWhole : Prop :=
  (∀ p : List Byte, ReadsBeacon p) ∧
  ∀ (s : State) (src dst : Byte) (payload : List Byte) (ms : Nat) (b : BeaconFrame), s.HearsPeer src dst →
    BeaconFrame.read payload = some b →
    let x := src.toNat
    let pairs := firstPairs b.claims
    let listed (e : Entry) : Option Phase := (pairs.find? (fun p => decide (p.1 = e.group))).map Prod.snd
    let leaves (e : Entry) : Bool := decide (e.station = x ∧ listed e = none)
    let held (p : Nat × Phase) : Option Entry := s.view.find? (fun e => decide (e.station = x ∧ e.group = p.1))
    let kept := s.view.filter (fun e => !leaves e)
    let new := pairs.filter (fun p => (held p).isNone)
    let room := 48 - kept.length
    let placeholder (p : Nat × Phase) : Entry :=
      { station := x, group := p.1, phase := p.2, weight := 0, age := 0, mask := s.usedGroups, full := none,
        rechargeEnded := false }
    let confirmed (e : Entry) : Entry :=
      if e.station = x then
        let phase := (listed e).getD e.phase
        { e with phase := phase, age := 0, rechargeEnded := e.rechargeEnded && decide (phase = .recovering) }
      else e
    let v := kept.map confirmed ++ (new.take room).map placeholder
    let reports : List Judged :=
      pairs.filterMap (fun p =>
        (held p).map (fun e =>
          { station := x, group := p.1, phase := p.2, urgency := e.full.map FullClaim.urgency, mask := e.mask,
            previous := some e.phase })) ++
      (new.take room).map (fun p =>
        { station := x, group := p.1, phase := p.2, urgency := none, mask := s.usedGroups, previous := none })
    ∃ t w a r u, exec (.beaconReceived src dst payload ms) s = .next t ∧
      t.view = reweigh x b.weight v ∧
      (new.drop room = [] → t.overflow = s.overflow ∧
        t.events.cell Event.peerViewFull.number = s.events.cell Event.peerViewFull.number) ∧
      (∀ before p, new.drop room = before ++ [p] → t.overflow = some 300 ∧
        (s.events.cells.length = 26 → Occurs .peerViewFull (groupDetail p.1) s t)) ∧
      Delivered (s.atMs ms) w ∧ w.view = t.view ∧ w.overflow = t.overflow ∧
      LoadStepsFor ((s.view.filter leaves).map (fun _ => t.view)) w a ∧
      JudgedFor reports a r ∧
      (t.view = v → Keeps [] r u) ∧ (t.view ≠ v → LoadSteps r u) ∧
      Keeps [.calendar] u t ∧
      t.sup.silence = some (s.figures.silence * 60) ∧ RestartNoted s t ∧
      (∀ p ∈ new.take room, ∃ e ∈ t.view, e.station = x ∧ e.group = p.1 ∧ e.phase = p.2 ∧ e.full = none ∧
        e.mask = s.usedGroups) ∧
      (s.calendar.valid = false → b.valid = true → b.minutes ≠ 0xFFFFFFFF →
        t.calendar = { s.calendar with minutes := b.minutes, seconds := 0, valid := true }) ∧
      ((s.calendar.valid = true ∨ b.valid = false ∨ b.minutes = 0xFFFFFFFF) → t.calendar = s.calendar) ∧
      Keeps
        [.calendar, .sup, .groups, .lums, .mem, .line, .events, .service, .overrun, .view, .overflow] (s.atMs ms) t

/-- R28, R33, R39, R126 to R128, R131, R138, R142 to R144, R174: frames that reach the supervisor alone, or no block
at all. A QUERY or COMMAND to the responder has a row of its own (log 31), and a received frame is one whole step (log
12). -/
def Obligations.OtherFramesAndErrors : Prop :=
  (∀ (s : State) (src dst : Byte) (ms : Nat) (i : Instr), s.Hears src dst → s.sup.mode.configured = true →
    src.toNat ≤ 222 →
    ((∃ kind, CarriesOther src dst kind ms i) ∨ CarriesService src dst ms i ∨
      (s.sup.address ≠ some src.toNat ∧ CarriesDiscarded src dst ms i)) →
    ∃ t, exec i s = .next t ∧ Delivered (s.atMs ms) t ∧ t.view = s.view ∧ t.overflow = s.overflow ∧
      t.events.cell Event.peerViewFull.number = s.events.cell Event.peerViewFull.number ∧
      (¬ s.Relistens → t.events = s.events)) ∧
  (∀ (s : State) (src dst : Byte) (ms : Nat) (i : Instr), s.powered = true → s.line.held = false →
    ((s.sup.mode = .loading ∧ s.sup.address = none ∧
        ((∃ kind, CarriesOther src dst kind ms i) ∨ CarriesService src dst ms i ∨
          ∃ payload, CarriesProtocol src dst payload ms i)) ∨
      (s.Hears src dst ∧ s.sup.mode = .unconfigured ∧ src.toNat ≤ 222 ∧ s.sup.address ≠ some src.toNat ∧
        ((∃ kind, CarriesOther src dst kind ms i) ∨ CarriesService src dst ms i ∨
          ∃ payload, CarriesProtocol src dst payload ms i)) ∨
      (s.Hears src dst ∧ 222 < src.toNat ∧
        ((∃ kind, CarriesOther src dst kind ms i ∧ kind ≠ 0x10#8 ∧ kind ≠ 0x12#8) ∨
          (∃ payload, CarriesProtocol src dst payload ms i) ∨
          ((s.sup.address ≠ some dst.toNat ∨ src.toNat = 223) ∧
            (CarriesService src dst ms i ∨ ∃ kind, CarriesOther src dst kind ms i))))) →
    ∃ t, exec i s = .next t ∧ Keeps [.line] (s.atMs ms) t ∧ t.line = { s.line with receiver := .idle }) ∧
  (∀ (s : State) (how : RxBreak) (chars : List Byte), s.powered = true → s.line.held = false →
    breakFits how chars = true →
    ∃ t, exec (.rxFrameBroken how chars) s = .next t ∧ Keeps [.line] s t ∧
      t.line =
        { s.line with
          receiver := .idle
          crcErrors :=
            if how = .stopDominant ∨ how = .idleEarly then min 255 (s.line.crcErrors + 1) else s.line.crcErrors }) ∧
  ∀ (s : State) (src dst kind n : Byte) (rest : List Byte), s.powered = true → s.line.held = false →
    n.toNat ≤ 40 → rest.length = n.toNat + 2 →
    let chars := src :: dst :: kind :: n :: rest
    let known := (1 ≤ src.toNat ∧ src.toNat ≤ 247) ∧ (dst.toNat = 0 ∨ s.sup.address = some dst.toNat)
    let clash :=
      1 ≤ src.toNat ∧ src.toNat ≤ 222 ∧ s.sup.address = some src.toNat ∧ (kind = 0x01#8 ∨ kind = 0x02#8 ∨ kind = 0x03#8)
    (crc16Good chars = false ∨ ¬ known ∨ clash) →
    ∃ t, exec (.rxFrameDiscarded chars) s = .next t ∧ Keeps [.line] s t ∧
      t.line =
        { s.line with
          receiver := .idle
          crcErrors := if crc16Good chars = false then min 255 (s.line.crcErrors + 1) else s.line.crcErrors
          clashes :=
            if crc16Good chars = true ∧ known ∧ clash then min 255 (s.line.clashes + 1) else s.line.clashes }

/-- R27, R30, R140, R141, R146, R148 and the layouts of sections 2.3, 8.2, 10.1 and 11.1: accesses to the line, the
characters that a frame is sent as, and their levels. Which of these is on the pin at a moment between two steps is
not state (log 33). The moment of the draw is the model's (log 13). -/
def Obligations.TransmissionAttemptsBegin : Prop :=
  FrameCodes ∧ Crc16Code ∧ LineCharacters ∧
  (∀ s : State,
    (∀ c, s.line.current = some c → c.sending = true → SentAs c.chars s.sentLevels) ∧
    ((∀ c, s.line.current = some c → c.sending = false) → s.sentLevels = [])) ∧
  (∀ k n i : Nat, i < k → (bytesBE k n)[i]? = some (byte (n / 256 ^ (k - 1 - i)))) ∧
  (∀ k n : Nat, (bytesBE k n).length = k) ∧
  ∀ s : State, s.powered = true → s.sup.mode ≠ .loading → s.line.cut = none → s.line.held = false →
    let draw := if s.line.slot = none then s.line.draw.map drawNext else s.line.draw
    (∀ c, s.line.current = some c → c.sending = false →
      ∃ t, exec .txAttemptStart s = .next t ∧ Keeps [.line] s t ∧
        t.line = { s.line with current := some { c with sending := true }, slot := none, draw := draw }) ∧
    (s.line.current = none → s.line.waiting ≠ [] →
      ∃ t f before after body, exec .txAttemptStart s = .next t ∧ Keeps [.line] s t ∧
        s.line.waiting = before ++ f :: after ∧ (∀ w ∈ before, f.order < w.order) ∧ (∀ w ∈ after, f.order ≤ w.order) ∧
        body.mode = s.sup.mode ∧ body.valid = s.calendar.valid ∧ body.minutes = s.calendar.minutes ∧
        body.weight = s.ownWeight ∧ body.claims.map Prod.fst = s.ownSet.take 4 ∧
        (∀ p ∈ body.claims, (s.group p.1).state = p.2.state) ∧
        t.line =
          { s.line with
            waiting := before ++ after, slot := none, draw := draw
            current :=
              some
                { frame := f, attempt := 1, window := 16, sending := true,
                  chars :=
                    f.shownBody (s.sup.address.getD 0) body ++
                      bytesBE 2 (crc16 (f.shownBody (s.sup.address.getD 0) body)).toNat } }) ∧
    (s.line.size ≠ 0 → (∀ c, s.line.current = some c → c.sending = false) →
      (∃ t, exec .txDefer s = .next t ∧ Keeps [.line] s t ∧ t.line = { s.line with draw := draw, slot := none }) ∧
      drawnWhileIdle false s = s ∧
      (s.line.slot ≠ none → drawnWhileIdle true s = s) ∧
      ∀ r, s.line.draw = some r → s.line.slot = none →
        let w := (s.line.current.map Current.window).getD 16
        drawnWhileIdle true s =
          { s with line := { s.line with draw := some (drawNext r), slot := some ((drawNext r).toNat % w) } }) ∧
    (∀ r : BitVec 16, drawNext r = drawShift^[8] r) ∧
    ∀ (r : BitVec 16) (i : Nat), i < 16 →
      (drawShift r).getLsbD i =
        if i = 0 then
          (((r.getLsbD 15).xor (r.getLsbD 13)).xor (r.getLsbD 12)).xor (r.getLsbD 10)
        else r.getLsbD (i - 1)

/-- R16, R32 to R34, R48, R147 to R149, R178: the three ends of a transmission attempt. -/
def Obligations.TransmissionAttemptsEnd : Prop :=
  ∀ (s : State) (c : Current), s.powered = true → s.line.current = some c → c.sending = true →
    let proposal (g : Nat) (r : ClaimRecord) : Prop :=
      (∃ b : ClaimBody, b.phase = .proposed ∧ c.frame = .claim g b) ∧ (s.group g).state = .proposed ∧
        (s.group g).claim = some r
    let noted : Service := { s.service with replyGone := s.service.replyGone || c.frame.ofRestart }
    let goes (f : TxFrame) : Bool :=
      match c.frame with
      | .claim g b => decide (b.phase = .proposed ∧ (s.group g).state = .proposed) && f.proposalOf g
      | _ => false
    let left := (s.line.waiting ++ s.line.backlog).filter (fun f => !goes f)
    (∃ t, exec .txComplete s = .next t ∧ Keeps [.line, .groups, .service] s t ∧ t.service = noted ∧
      t.line =
        { s.line with
          current := none, slot := none,
          waiting := s.line.waiting ++ s.line.backlog.take (12 - s.line.waiting.length),
          backlog := s.line.backlog.drop (12 - s.line.waiting.length) } ∧
      (∀ g r, proposal g r → r.hold = some .awaiting →
        t.group g = { s.group g with claim := some { r with hold := some (.running 0) } }) ∧
      ∀ g, ¬ (∃ r, proposal g r ∧ r.hold = some .awaiting) → t.group g = s.group g) ∧
    (c.attempt < 8 →
      ∃ t, exec .txCollision s = .next t ∧ Keeps [.line] s t ∧
        t.line =
          { s.line with
            slot := none
            current :=
              some { c with attempt := c.attempt + 1, window := min 128 (2 * c.window), sending := false } }) ∧
    (8 ≤ c.attempt → s.events.cells.length = 26 →
      ∃ t, exec .txCollision s = .next t ∧ Keeps [.line, .groups, .events, .service, .overrun] s t ∧
        t.line.current = none ∧ Occurs .txDropped (kindDetail c.frame.kind) s t ∧ t.service = noted ∧
        EventsKept [.txDropped, .loadOver] s t ∧ t.line.waiting ++ t.line.backlog = left ∧
        (s.line.size ≤ 12 →
          t.line = { s.line with current := none, slot := none, waiting := left.take 12, backlog := left.drop 12 }) ∧
        (∀ g reason, Waits (.release g reason) t → Waits (.release g reason) s) ∧
        (∀ g r, proposal g r → Withdrawn g s t ∧ Relatched s t) ∧
        ((∀ g b, c.frame = .claim g b → b.phase = .proposed → (s.group g).state ≠ .proposed) → Unlatched s t) ∧
        ∀ g, (¬ ∃ r, proposal g r) → (s.group g).state ≠ .proposed ∨ (s.group g).claim ≠ none → t.group g = s.group g)

/-- R16, R21, R39, R43, R82, R83, R89, R90, R133, R150, R161, R164, R178: a driver cut. The order of the withdrawals
and ends is the model's (log 19). -/
def Obligations.DriverCutStopsTheStation : Prop :=
  ∀ (s : State) (bits ms : Nat), s.powered = true → 16 < bits → s.line.cut = none → s.TablesWhole →
    ∃ t, exec (.driverCut bits ms) s = .next t ∧
      Keeps [.sup, .groups, .lums, .mem, .line, .events, .service, .overrun] (s.atMs ms) t ∧ WithdrawnLatch s t ∧
      t.service =
        { s.service with
          replyGone :=
            s.service.replyGone || (s.line.waiting ++ (s.line.current.map Current.frame).toList).any TxFrame.ofRestart } ∧
      EventsKept [.driverCut, .testAborted, .recordCrcError, .loadOver, .isolated] s t ∧
      t.line.cut = some 60 ∧ t.line.current = none ∧ Occurs .driverCut noDetail s t ∧
      (∀ f, Waits f t → ∃ g b, f = .claim g b ∧ b.phase = .recovering ∧ (s.group g).state = .testing) ∧
      HistoryOffered
        (((List.range 24).filter (fun g => decide ((s.group g).state = .testing))).flatMap (fun g => linesOf g s t)) s t ∧
      (∀ g, (s.group g).state = .proposed → Withdrawn g s t) ∧
      (∀ g, (s.group g).state = .testing → EndsEarly g .abortedLine true s t) ∧
      (∀ g, (s.group g).state = .testing → (∀ h, (s.group h).state = .testing → h ≤ g) →
        Occurs .testAborted (groupDetail g) s t) ∧
      ((∀ g, (s.group g).state ≠ .testing) →
        t.events.cell Event.testAborted.number = s.events.cell Event.testAborted.number) ∧
      (∀ n, (∀ g, (s.group g).state = .testing → n ∉ (s.group g).defn.members) → t.lum n = s.lum n) ∧
      (∀ g, (s.group g).state ≠ .proposed → (s.group g).state ≠ .testing → t.group g = s.group g) ∧
      (s.sup.mode.configured = false →
        t.sup = s.sup ∧ t.events.cell Event.isolated.number = s.events.cell Event.isolated.number) ∧
      (s.sup.mode.configured = true →
        Occurs .isolated noDetail s t ∧
        t.sup =
          { s.sup with
            mode := .isolated, reason := .driver, listen := none, clear := none, fallback := none,
            isolations := min 15 (s.sup.isolations + 1) })

/-- R128, R133, R145 to R147, R151, R168, R169, R178: the re-enable, the line-held flag, the placing and the offer of
a report, and a frame offered to a full queue. What REPORT_OVERRUN's own detail is where a displacement meets a full
report list is the model's (log 29) and is not stated here. -/
def Obligations.LineFlagsAndReports : Prop :=
  (∀ s : State, s.powered = true → s.line.cut = some 0 →
    ∃ t, exec .driverReenable s = .next t ∧ t.line.cut = none ∧
      (s.sup.mode = .isolated ∧ s.sup.reason = .driver →
        Keeps [.line, .sup, .groups, .events, .service, .overrun] s t ∧ RestartNoted s t ∧ EventsKept [.loadOver] s t ∧
        t.sup =
          { s.sup with
            mode := .listening, reason := .noReason, listen := some ((2 * s.figures.beacon + 1) * 60),
            silence := some (s.figures.silence * 60), fallback := none, clear := none } ∧
        (∀ g, g < 24 →
          ((s.group g).state = .proposed → Withdrawn g s t ∧ Waits (.release g .withdrawn) t) ∧
          ((s.group g).state ≠ .proposed → t.group g = s.group g)) ∧ WithdrawnLatch s t) ∧
      (¬ (s.sup.mode = .isolated ∧ s.sup.reason = .driver) →
        Keeps [.line] s t ∧ t.line = { s.line with cut := none })) ∧
  (∀ (s : State) (bits : Nat), s.powered = true → 64 ≤ bits → s.line.held = false → s.events.cells.length = 26 →
    ∃ t, exec (.lineHeld bits) s = .next t ∧ Keeps [.line, .events] s t ∧
      t.line = { s.line with held := true, receiver := .idle } ∧ Occurs .lineHeld noDetail s t ∧
      EventsKept [.lineHeld] s t) ∧
  (∀ (s : State) (bits : Nat), s.powered = true → 12 ≤ bits →
    ∃ t, exec (.lineHeldCleared bits) s = .next t ∧ Keeps [.line] s t ∧ t.line = { s.line with held := false }) ∧
  (∀ (s : State) (r : Report) (rest : List Report), s.powered = true → s.events.reports = r :: rest →
    s.sup.mode ≠ .loading → (∀ q, TxFrame.event q ∉ s.line.waiting) →
    (∀ c, s.line.current = some c → ∀ q, c.frame ≠ .event q) → s.line.size < 12 → s.line.backlog = [] →
    ∃ t, exec .reportOffer s = .next t ∧ Keeps [.line, .events] s t ∧
      t.events = { s.events with reports := rest } ∧
      t.line = { s.line with waiting := s.line.waiting ++ [.event r] }) ∧
  (∀ (s : State) (e : Event) (d : Detail), s.events.cells.length = 26 →
    let c := s.events.cell e.number
    let t := raise e d s
    let reaches (a : Byte) : Prop :=
      c.mask = false ∧ c.status = false ∧
        ∃ i, c.push = some i ∧ (s.events.destinations.getD i ConsoleEntry.off).on = true ∧
          (s.events.destinations.getD i ConsoleEntry.off).address = a
    (∀ a, reaches a → s.events.reports.length < 8 →
      t.events.reports =
        s.events.reports ++ [{ event := e.number, detail := d, minutes := s.calendar.minutes, console := a }]) ∧
    (∀ a, reaches a → 8 ≤ s.events.reports.length →
      t.events.reports = s.events.reports ∧
      (e ≠ .reportOverrun → Occurs .reportOverrun (eventDetail e.number) s t)) ∧
    ((∀ a, ¬ reaches a) → t.events.reports = s.events.reports)) ∧
  ∀ (s : State) (f : TxFrame), 12 ≤ s.line.size → s.events.cells.length = 26 →
    (∀ g b b', f = .claim g b → ¬ Waits (.claim g b') s) → (∀ g r r', f = .release g r → ¬ Waits (.release g r') s) →
    let t := offer f s
    Keeps [.line, .events, .service] s t ∧ EventsKept [] s t ∧
    (f.order = 3 → t = s) ∧
    (∀ before lost after, s.line.waiting = before ++ lost :: after → lost.order = 3 → (∀ w ∈ after, w.order ≠ 3) →
      f.order ≠ 3 →
      t.line = { s.line with waiting := before ++ after ++ [f] } ∧
      t.service = { s.service with replyGone := s.service.replyGone || lost.ofRestart } ∧
      ((∀ r, lost ≠ .event r) → t.events = s.events) ∧
      ∀ r, lost = .event r → s.events.reports.length < 8 → Occurs .reportOverrun (eventDetail r.event) s t) ∧
    ((∀ w ∈ s.line.waiting, w.order ≠ 3) →
      (f.order = 2 → t = s) ∧
      (f.order = 1 → t.service = s.service ∧ t.events = s.events ∧
        (∀ before after, s.line.waiting = before ++ .beacon :: after → TxFrame.beacon ∉ after →
          t.line = { s.line with waiting := before ++ after ++ [f] }) ∧
        (TxFrame.beacon ∉ s.line.waiting → t.line = { s.line with backlog := s.line.backlog ++ [f] })))

/-- R72, R96, R98, R103, R105, R106, R109: the arbiter of a free branch. -/
def Obligations.BranchGrantServesTheSources : Prop :=
  ∀ (s : State) (b : BranchId), s.powered = true → s.sup.mode ≠ .loading → (s.branch b).txn = none → s.TablesWhole →
    let br := s.branch b
    let body (n : Nat) (c : LoopCommand) (argument : List Byte) : List Byte :=
      byte n :: (match c with | .probe => 0x01#8 | .start => 0x02#8 | .endTest => 0x03#8) :: argument
    let begun (n : Nat) (c : LoopCommand) (source : LoopSource) (argument : List Byte) : Option LoopTxn :=
      some
        { lum := n, command := c, source := source, attempt := 1,
          chars := body n c argument ++ [crc8 (body n c argument)] }
    let left (n : Nat) : Option Request :=
      if (s.lum n).branch = some b ∧ br.down = true ∧ (s.lum n).request = some .start then none else (s.lum n).request
    let owed (n : Nat) : Prop := n < 128 ∧ (s.lum n).branch = some b ∧ (s.lum n).endOwed = true
    let sweeps (cursor n : Nat) : Prop :=
      n < 128 ∧ cursor ≤ n ∧ (s.lum n).branch = some b ∧ (∃ g, g < 24 ∧ n ∈ (s.group g).defn.members) ∧
        s.underTest n = false
    ∃ t, exec (.branchGrant b) s = .next t ∧ Crc8Code ∧ Keeps [.lums, .loop] s t ∧
      (∀ o, o ≠ b → t.branch o = s.branch o) ∧ t.loop.sweepCountdown = s.loop.sweepCountdown ∧
      (∀ n, t.lum n = { s.lum n with request := (t.lum n).request }) ∧
      (∀ n, owed n → (∀ m, owed m → n ≤ m) →
        t.branch b = { br with txn := begun n .endTest .test [] } ∧ t.loop.slot = s.loop.slot ∧
        ∀ m, (t.lum m).request = left m) ∧
      ((∀ n, ¬ owed n) →
        ((∃ r g n, s.Asks b r g n) →
          ∃ r g n, s.Asks b r g n ∧
            (∀ r' g' n', s.Asks b r' g' n' →
              (some g ≠ br.lastServed → some g' ≠ br.lastServed → g ≤ g') ∧ (some g = br.lastServed → g' = g)) ∧
            (∀ r' n', s.Asks b r' g n' → (r = .probe → r' = .probe) ∧ (r' = r → n ≤ n')) ∧
            t.branch b =
              { br with
                lastServed := some g
                txn :=
                  match r with
                  | .start => begun n .start .test [byte ((s.group g).defn.minutes + 15)]
                  | .probe => begun n .probe .test [] } ∧
            (∀ m, (t.lum m).request = if m = n then none else left m) ∧ t.loop.slot = s.loop.slot) ∧
        ((¬ ∃ r g n, s.Asks b r g n) → (∀ m, (t.lum m).request = left m) ∧
          (∀ p, s.loop.slot = some p → p.inFlight = false → (s.lum p.lum).branch = some b →
            t.branch b = { br with txn := begun p.lum .probe .passThrough [] } ∧
            t.loop.slot = some { p with inFlight := true }) ∧
          ((∀ p, s.loop.slot = some p → p.inFlight = true ∨ (s.lum p.lum).branch ≠ some b) →
            t.loop.slot = s.loop.slot ∧
            ((br.sweep = none ∨ s.inputs.mains = .off) → t.branch b = br) ∧
            ∀ cursor, br.sweep = some cursor → s.inputs.mains ≠ .off →
              (∀ n, sweeps cursor n → (∀ m, sweeps cursor m → n ≤ m) →
                t.branch b = { br with sweep := some (n + 1), txn := begun n .probe .sweep [] }) ∧
              ((∀ n, ¬ sweeps cursor n) → t.branch b = { br with sweep := none }))))

/-- R97 to R102, R107, R109: the attempts of a loop transaction, and its completion. -/
def Obligations.LoopTransactionIsSettled : Prop :=
  ∀ (s : State) (b : BranchId) (x : LoopTxn) (chars : List LoopChar) (ms : Nat), s.powered = true →
    (s.branch b).txn = some x → s.TablesWhole → x.lum < 128 →
    let br := s.branch b
    let n := x.lum
    let l := s.lum n
    let reply := goodReply n chars
    let w : List WindowRecord := (br.window ++ [({ lum := n, good := reply.isSome } : WindowRecord)]).drop (br.window.length + 1 - 8)
    let value (i : Nat) : Byte := (chars.map LoopChar.value).getD i 0x00#8
    let condemned := w.length = 8 ∧ (∀ r ∈ w, r.good = false) ∧ 3 ≤ (w.map WindowRecord.lum).dedup.length
    let same (e : Event) (t : State) : Prop := t.events.cell e.number = s.events.cell e.number
    (reply ≠ none ↔
      5 ≤ chars.length ∧ (∀ k ∈ chars.take 5, k.stop = true) ∧
        value 4 = crc8 [value 0, value 1, value 2, value 3] ∧ value 0 = byte n) ∧
    (∀ r, reply = some r → r.status = value 1 &&& 0x07#8 ∧ r.volts = value 2 ∧ r.faults = value 3 &&& 0x07#8) ∧
    (x.attempt = 1 → reply = none →
      ∃ t, exec (.loopRetry b chars) s = .next t ∧ Keeps [.loop] s t ∧ (∀ o, o ≠ b → t.branch o = s.branch o) ∧
        t.branch b = { br with txn := some { x with attempt := 2 } }) ∧
    (reply ≠ none ∨ x.attempt = 2 →
      ∃ t, exec (.loopTransactionComplete b chars ms) s = .next t ∧
        Keeps [.groups, .lums, .mem, .line, .events, .service, .loop] (s.atMs ms) t ∧ RestartNoted s t ∧
        EventsKept
          [.branchUp, .branchDown, .luminaireReturned, .luminaireAbsent, .luminaireFault, .groupPassed, .groupFaulty,
            .recordCrcError] s t ∧
        (∀ o, o ≠ b → t.branch o = s.branch o) ∧
        (reply ≠ none → t.branch b = { br with txn := none, window := w, down := false }) ∧
        (reply = none → condemned → t.branch b = { br with txn := none, window := w, down := true }) ∧
        (reply = none → ¬ condemned → t.branch b = { br with txn := none, window := w }) ∧
        (reply ≠ none → br.down = true → Occurs .branchUp (lumDetail n) s t) ∧
        (reply = none → br.down = false → condemned → Occurs .branchDown (lumDetail n) s t) ∧
        (∀ r, reply = some r →
          (t.lum n).presence = .present ∧ (t.lum n).misses = 0 ∧
          (t.lum n).latest = some { tick := t.now, status := r.status, volts := r.volts, faults := r.faults } ∧
          (l.presence = .absent → Occurs .luminaireReturned (lumDetail n) s t)) ∧
        (reply = none →
          (t.lum n).latest = l.latest ∧
          (l.presence = .absent → (t.lum n).presence = .absent ∧ (t.lum n).misses = l.misses) ∧
          (l.presence ≠ .absent → l.misses < 2 →
            (t.lum n).presence = l.presence ∧ (t.lum n).misses = l.misses + 1) ∧
          (l.presence ≠ .absent → 2 ≤ l.misses →
            (t.lum n).presence = .absent ∧ (t.lum n).misses = 3 ∧ Occurs .luminaireAbsent (lumDetail n) s t)) ∧
        (reply = none ∨ br.down = false → same .branchUp t) ∧
        (reply ≠ none ∨ br.down = true ∨ ¬ condemned → same .branchDown t) ∧
        (reply = none ∨ l.presence ≠ .absent → same .luminaireReturned t) ∧
        (reply ≠ none ∨ l.presence = .absent ∨ l.misses < 2 → same .luminaireAbsent t) ∧
        (x.source ≠ .sweep ∨ reply = none ∨ (∀ r, reply = some r → r.faults = l.reported ∨ r.faults = 0x00#8) →
          same .luminaireFault t) ∧
        t.loop.sweepCountdown = s.loop.sweepCountdown ∧ (x.source ≠ .passThrough → t.loop.slot = s.loop.slot) ∧
        (x.source ≠ .test →
          Keeps [.lums, .line, .events, .loop] (s.atMs ms) t ∧ OtherLums n s t ∧
          t.lum n =
            { l with
              presence := (t.lum n).presence, misses := (t.lum n).misses, latest := (t.lum n).latest,
              reported := (t.lum n).reported } ∧
          (x.source = .sweep → t.line = s.line) ∧ (x.source = .passThrough → (t.lum n).reported = l.reported)) ∧
        (x.source = .sweep →
          (∀ r, reply = some r →
            (t.lum n).reported = r.faults ∧
            (r.faults ≠ l.reported → r.faults ≠ 0x00#8 → Occurs .luminaireFault (lumDetail n) s t)) ∧
          (reply = none → (t.lum n).reported = l.reported)) ∧
        (x.source = .passThrough → ∀ p, s.loop.slot = some p →
          t.loop.slot = none ∧
          (match reply with
           | some r =>
             Replies p.console .ok [0x28#8, byte p.lum, 0x00#8] [byte p.lum, r.status, r.volts, r.faults] s.line t
           | none => Replies p.console .noReply [0x28#8, byte p.lum, 0x00#8] [byte p.lum] s.line t)))

/-- R68, R73 to R75, R77 to R80, R99: the outcomes of the test engine's transactions, and the conclusion that one may
bring (Checked). -/
def Obligations.TestTransactionsMoveTheMember : Prop :=
  ∀ (s : State) (b : BranchId) (x : LoopTxn) (chars : List LoopChar) (ms : Nat), s.powered = true →
    (s.branch b).txn = some x → x.source = .test → s.TablesWhole → x.lum < 128 →
    let n := x.lum
    let l := s.lum n
    let reply := goodReply n chars
    (reply ≠ none ∨ x.attempt = 2) →
    ∃ u t, exec (.loopTransactionComplete b chars ms) s = .next t ∧
      Keeps [.groups, .lums, .events, .loop] (s.atMs ms) u ∧ OtherLums n s u ∧
      let now := (s.atMs ms).now
      let left (v : Lum) : Prop :=
        u.lum n = { v with presence := (u.lum n).presence, misses := (u.lum n).misses, latest := (u.lum n).latest }
      let underStart (g : Nat) : Prop :=
        s.groupOf n = some g ∧ (s.group g).state = .testing ∧ x.command = .start ∧ l.test = .pendingStart
      let underProbe (g : Nat) : Prop :=
        s.groupOf n = some g ∧ (s.group g).state = .testing ∧ x.command = .probe ∧ l.test = .discharging
      let failed (g : Nat) (v : Lum) (state : TestState) (achieved : Nat) : Prop :=
        left { v with test := state, achieved := achieved, endOwed := true, request := none } ∧ OtherGroups g s u ∧
          u.group g = { s.group g with firstFailing := some ((s.group g).firstFailing.getD n) }
      let heard : Lum :=
        { l with
          lastGood :=
            match reply with
            | some r => some { tick := now, volts := r.volts, faults := r.faults }
            | none => l.lastGood }
      (x.command = .endTest → left { l with endOwed := false } ∧ u.groups = s.groups ∧ Keeps [] u t) ∧
      (∀ g, underStart g →
        Checked g u t ∧
        ((∃ r, reply = some r ∧ r.inTest = true) →
          left { heard with test := .discharging, ownStart := some now, request := none } ∧ u.groups = s.groups) ∧
        ((∀ r, reply = some r → r.inTest = false) →
          (3 ≤ l.startCount → failed g heard .noReply 0) ∧
          (l.startCount < 3 → left heard ∧ u.groups = s.groups))) ∧
      (∀ g o, underProbe g → l.ownStart = some o →
        Checked g u t ∧
        (∀ r, reply = some r →
          (r.lampLit = true → r.onBattery = true → left heard ∧ u.groups = s.groups) ∧
          ((r.lampLit = false ∨ r.onBattery = false) → failed g heard .failedEarly ((now - o) / 60000))) ∧
        (reply = none →
          ((u.lum n).misses < 3 → left l ∧ u.groups = s.groups) ∧
          (3 ≤ (u.lum n).misses → ∀ k, l.lastGood = some k → failed g l .noReply ((k.tick - o) / 60000)))) ∧
      (x.command ≠ .endTest → (∀ g, ¬ underStart g ∧ ¬ underProbe g) →
        left l ∧ u.groups = s.groups ∧ Keeps [] u t)

/-- R112, R113, R117, R118, R173: the input filters. The millisecond part of a change is the operand of its step (log
6); that a pin goes on moving without the supply is the model's choice (log 24). -/
def Obligations.PinsAndContactsFollowTheirFilters : Prop :=
  (∀ (s : State) (ms : Nat), s.atMs ms = { s with clock := { s.clock with ms := max s.clock.ms (min ms 999) } }) ∧
  (∀ (s : State) (high : Bool) (ms : Nat), high ≠ s.pins.msense → s.powered = true →
    ∃ t, exec (.msenseChange high ms) s = .next t ∧ Keeps [.pins, .inputs] (s.atMs ms) t ∧
      t.pins = { s.pins with msense := high } ∧
      t.inputs =
        { s.inputs with
          mainsCand := { high := high, since := t.now }
          glitches :=
            if ((s.inputs.mains = .on ∧ s.inputs.mainsCand.high = false ∧ high = true) ∨
                (s.inputs.mains = .off ∧ s.inputs.mainsCand.high = true ∧ high = false)) ∧
                t.now < s.inputs.mainsCand.since + 1000 * s.inputs.validation then
              min 255 (s.inputs.glitches + 1)
            else s.inputs.glitches }) ∧
  (∀ (s : State) (high : Bool) (ms : Nat), high ≠ s.pins.inhibit → s.powered = true →
    ∃ t, exec (.inhibitChange high ms) s = .next t ∧ Keeps [.pins, .inputs] (s.atMs ms) t ∧
      t.pins = { s.pins with inhibit := high } ∧
      t.inputs = { s.inputs with inhibitCand := { high := high, since := t.now } }) ∧
  (∀ (s : State) (high : Bool) (ms : Nat), high ≠ s.pins.skey → s.powered = true →
    ∃ t, exec (.skeyChange high ms) s = .next t ∧ Keeps [.pins, .service] (s.atMs ms) t ∧
      t.pins = { s.pins with skey := high } ∧
      t.service = { s.service with keyCand := { high := high, since := t.now } }) ∧
  (∀ (s : State) (ms : Nat),
    exec (.msenseChange s.pins.msense ms) s = .next s ∧ exec (.inhibitChange s.pins.inhibit ms) s = .next s ∧
    exec (.skeyChange s.pins.skey ms) s = .next s) ∧
  (∀ (s : State) (high : Bool) (ms : Nat), s.powered = false →
    exec (.msenseChange high ms) s = .next { s with pins := { s.pins with msense := high } } ∧
    exec (.inhibitChange high ms) s = .next { s with pins := { s.pins with inhibit := high } } ∧
    exec (.skeyChange high ms) s = .next { s with pins := { s.pins with skey := high } }) ∧
  (∀ (s : State) (ms : Nat), s.powered = true → s.inputs.inhibitCand.since + 2000 ≤ (s.atMs ms).now →
    (s.inputs.inhibitCand.high = true → s.inputs.inhibit ≠ .active →
      ∃ t, exec (.inhibitValidated ms) s = .next t ∧ Keeps [.inputs] (s.atMs ms) t ∧
        t.inputs = { s.inputs with inhibit := .active }) ∧
    (s.inputs.inhibitCand.high = false → s.inputs.inhibit ≠ .inactive →
      ∃ t, exec (.inhibitValidated ms) s = .next t ∧ Keeps [.inputs] (s.atMs ms) t ∧
        t.inputs = { s.inputs with inhibit := .inactive, stuck := 0 })) ∧
  ∀ (s : State) (ms : Nat), s.powered = true → s.service.keyCand.since + 2000 ≤ (s.atMs ms).now →
    (s.service.keyCand.high = true → s.service.key ≠ .active →
      ∃ t, exec (.skeyValidated ms) s = .next t ∧ Keeps [.service] (s.atMs ms) t ∧
        t.service = { s.service with key := .active }) ∧
    (s.service.keyCand.high = false → s.service.key ≠ .inactive →
      ∃ t, exec (.skeyValidated ms) s = .next t ∧ Keeps [.service] (s.atMs ms) t ∧
        t.service = { s.service with key := .inactive })

/-- R16, R21, R29, R38, R43, R82 to R84, R89, R90, R112, R114 to R116, R161, R164: the validated mains state. The
order of the withdrawals and ends is the model's (log 19), and so is MAINS_LOST before them (log 41). -/
def Obligations.MainsIsValidated : Prop :=
  (∀ (s : State) (ms : Nat) (idle : Bool), s.powered = true → s.inputs.mainsCand.high = false → s.inputs.mains ≠ .off →
    s.inputs.mainsCand.since + 1000 * s.inputs.validation ≤ (s.atMs ms).now → s.TablesWhole →
    ∃ t, exec (.validatedOff ms idle) s = .next t ∧
      Keeps [.inputs, .groups, .lums, .mem, .line, .events, .service, .overrun] (s.atMs ms) t ∧ WithdrawnLatch s t ∧
      RestartNoted s t ∧ EventsKept [.mainsLost, .testAborted, .recordCrcError, .loadOver] s t ∧
      t.inputs = { s.inputs with mains := .off, outageTimer := 0 } ∧ Occurs .mainsLost noDetail s t ∧
      (∀ g, (s.group g).state = .proposed → Withdrawn g s t ∧ Waits (.release g .aborted) t) ∧
      (∀ g, (s.group g).state = .testing → EndsEarly g .abortedMains false s t) ∧
      (∀ g, (s.group g).state = .testing → (∀ h, (s.group h).state = .testing → h ≤ g) →
        Occurs .testAborted (groupDetail g) s t) ∧
      ((∀ g, (s.group g).state ≠ .testing) →
        t.events.cell Event.testAborted.number = s.events.cell Event.testAborted.number) ∧
      (∀ n, (∀ g, (s.group g).state = .testing → n ∉ (s.group g).defn.members) → t.lum n = s.lum n) ∧
      HistoryOffered
        (((List.range 24).filter (fun g => decide ((s.group g).state = .testing))).flatMap (fun g => linesOf g s t)) s t ∧
      ∀ g, (s.group g).state ≠ .proposed → (s.group g).state ≠ .testing → t.group g = s.group g) ∧
  ∀ (s : State) (ms : Nat), s.powered = true → s.inputs.mainsCand.high = true → s.inputs.mains ≠ .on →
    s.inputs.mainsCand.since + 1000 * s.inputs.validation ≤ (s.atMs ms).now → s.events.cells.length = 26 →
    let d := ⌈(s.inputs.outageTimer : ℚ) / 60⌉₊
    ∃ t, exec (.validatedOn ms) s = .next t ∧ Keeps [.inputs, .events] (s.atMs ms) t ∧
      EventsKept [.mainsRestored] s t ∧
      (s.inputs.mains = .off →
        Occurs .mainsRestored noDetail s t ∧
        t.inputs =
          { s.inputs with
            mains := .on, outageTimer := 0, lastOutage := d,
            outageHold := max s.inputs.outageHold (min 2880 (8 * d)) }) ∧
      (s.inputs.mains = .unknown → t.inputs = { s.inputs with mains := .on } ∧ t.events = s.events)

/-- R23, R65, R66, R92, R110, R124, R139, R152, R166, R174, R175 and the layouts of section 11.2: the QUERY items that
read the state. The echo bytes that a QUERY of fewer than three bytes does not carry are free values (log 5), of which
only their number is stated. That an idle sweep's cursor, a stopped sweep countdown and the seconds since a latest
reply that is not held are sent as all ones is the model's reading of section 11.2 (log 30). -/
def Obligations.QueriesAreAnswered : Prop :=
  (∀ (s : State) (src dst index sub : Byte) (rest : List Byte) (ms : Nat), s.HearsConsole src dst → s.line.size < 12 →
    let reply (code : Byte) (status : Status) (data : List Byte) : Line :=
      { s.line with
        receiver := .idle
        waiting :=
          s.line.waiting ++
            [.reply { console := src, status := status, echo := [code, index, sub], data := data, restart := false }] }
    let found (code : Byte) (data : Option (List Byte)) : Line :=
      match data with
      | some d => reply code .ok d
      | none => reply code .badArgument []
    let judged (code : Byte) (data : Option (List Byte)) : Line :=
      if s.sup.mode = .unconfigured then reply code .unconfigured [] else found code data
    let args := index :: sub :: rest
    let now := s.atMs ms
    (∃ t, exec (.stationStatus src dst args ms) s = .next t ∧ Keeps [.line] (s.atMs ms) t ∧
      t.line = found 0x01#8 (stationStatusData index.toNat sub.toNat now)) ∧
    (∃ t, exec (.group src dst args ms) s = .next t ∧ Keeps [.line] (s.atMs ms) t ∧
      t.line = judged 0x02#8 (groupData index.toNat sub.toNat now)) ∧
    (∃ t, exec (.luminaire src dst args ms) s = .next t ∧ Keeps [.line] (s.atMs ms) t ∧
      t.line = judged 0x03#8 (luminaireData index.toNat sub.toNat now)) ∧
    (∃ t, exec (.peerEntry src dst args ms) s = .next t ∧ Keeps [.line] (s.atMs ms) t ∧
      (s.sup.mode ≠ .unconfigured → index.toNat < 48 → sub.toNat = 0 → s.view.length ≤ index.toNat →
        t.line = reply 0x05#8 .notApplicable []) ∧
      (∀ e, s.sup.mode ≠ .unconfigured → index.toNat < 48 → sub.toNat = 0 → s.view[index.toNat]? = some e →
        t.line = reply 0x05#8 .ok (laidOut e.shownFields)) ∧
      (s.sup.mode = .unconfigured → t.line = reply 0x05#8 .unconfigured []) ∧
      (s.sup.mode ≠ .unconfigured → ¬ (index.toNat < 48 ∧ sub.toNat = 0) → t.line = reply 0x05#8 .badArgument [])) ∧
    (∃ t, exec (.eventStatus src dst args ms) s = .next t ∧ Keeps [.line] (s.atMs ms) t ∧
      t.line = judged 0x06#8 (eventStatusData index.toNat sub.toNat now)) ∧
    ∃ t, exec (.counters src dst args ms) s = .next t ∧ Keeps [.line] (s.atMs ms) t ∧
      t.line = judged 0x07#8 (countersData index.toNat sub.toNat now)) ∧
  (∀ (s : State) (src dst : Byte) (args : List Byte) (ms : Nat) (payload : List Byte) (i : Instr), s.HearsConsole src dst →
    ((payload, i) ∈
        [(0x01#8 :: args, Instr.stationStatus src dst args ms), (0x02#8 :: args, Instr.group src dst args ms),
          (0x03#8 :: args, Instr.luminaire src dst args ms), (0x04#8 :: args, Instr.history src dst args ms),
          (0x05#8 :: args, Instr.peerEntry src dst args ms), (0x06#8 :: args, Instr.eventStatus src dst args ms),
          (0x07#8 :: args, Instr.counters src dst args ms)] ∨
      ((∀ item ∈ payload.head?, ¬ (1 ≤ item.toNat ∧ item.toNat ≤ 7)) ∧
        i = Instr.unknownServiceCode src dst .query payload ms)) →
    (payload.length < 3 → s.line.size < 12 →
      ∃ t echo, exec i s = .next t ∧ Keeps [.line, .free] (s.atMs ms) t ∧ echo.length = 3 ∧ payload <+: echo ∧
        t.line =
          { s.line with
            receiver := .idle
            waiting :=
              s.line.waiting ++
                [.reply { console := src, status := .badArgument, echo := echo, data := [], restart := false }] }) ∧
    (12 ≤ s.line.size →
      ∃ t, exec i s = .next t ∧ Keeps [.line, .mem, .free] (s.atMs ms) t ∧ t.line = { s.line with receiver := .idle })) ∧
  (∀ s : State, s.StatusPages ∧ s.EventPages ∧ (∀ g, g < 24 → s.GroupPages g) ∧ (∀ g page, 24 ≤ g → groupData g page s = none) ∧
    (∀ n, n < 128 → s.LumPages n) ∧ ∀ n page, 128 ≤ n → luminaireData n page s = none) ∧
  PageCodes

/-- R163, R164, R174, R175: the HISTORY query. -/
def Obligations.HistoryIsAnsweredFromTheCache : Prop :=
  ∀ (s : State) (src dst index sub : Byte) (rest : List Byte) (ms : Nat), s.HearsConsole src dst → s.HistoryLaw →
    let n := index.toNat
    let k := sub.toNat
    let answers (status : Status) (data : List Byte) (t : State) : Prop :=
      Replies src status [0x04#8, index, sub] data { s.line with receiver := .idle } t
    ∃ t, exec (.history src dst (index :: sub :: rest) ms) s = .next t ∧ Keeps [.line, .mem] (s.atMs ms) t ∧
      (s.sup.mode = .unconfigured → answers .unconfigured [] t ∧ t.mem = s.mem) ∧
      (s.sup.mode ≠ .unconfigured → ¬ (n < 128 ∧ k < 8) → answers .badArgument [] t ∧ t.mem = s.mem) ∧
      (s.sup.mode ≠ .unconfigured → n < 128 → k < 8 →
        ((s.lum n).record.count ≤ k → answers .notApplicable [] t ∧ t.mem = s.mem) ∧
        (k < (s.lum n).record.count →
          (∀ c ∈ s.mem.cache, c.lum = n → ∀ line, c.lines[((s.lum n).record.next + 7 - k) % 8]? = some line →
            answers (if line.2 = true then .ok else .corrupt) (line.1.take 14) t ∧ t.mem = s.mem) ∧
          ((∀ c ∈ s.mem.cache, c.lum ≠ n) →
            (n ∈ s.mem.fillPending → answers .retry [] t ∧ t.mem = s.mem) ∧
            (n ∉ s.mem.fillPending → s.mem.fillPending.length < 4 →
              answers .retry [] t ∧ t.mem = { s.mem with fillPending := s.mem.fillPending ++ [n] }) ∧
            (n ∉ s.mem.fillPending → 4 ≤ s.mem.fillPending.length → answers .busy [] t ∧ t.mem = s.mem))))

/-- R4, R16 to R20, R29, R43, R82, R83, R89, R90, R161, R174, R176: the commands that name a group. That a queue which
a withdrawal empties and its RELEASE fills again has become empty, so that the slot wait begins anew
(Line.afterWithdrawal), is the model's choice (log 40). -/
def Obligations.GroupCommandsActOnTheirGroup : Prop :=
  ∀ (s : State) (src dst a : Byte) (rest : List Byte) (ms : Nat), s.HearsConsole src dst → a.toNat < 24 →
    let g := a.toNat
    let gr := s.group g
    let args := a :: rest
    let idle : Line := { s.line with receiver := .idle }
    let withdrawn (code : Byte) (t : State) : Prop :=
      Waits (.release g .withdrawn) t ∧ Relatched s t ∧
        Replies src .ok [code, a, 0x00#8] [] (withdraw g (some .withdrawn) { s with line := idle }).line t ∧
        (s.line.size < 12 → s.line.backlog = [] →
          Replies src .ok [code, a, 0x00#8] [] (idle.afterWithdrawal g .withdrawn) t)
    let unused (code : Byte) (t : State) : Prop :=
      gr.state = .unused → Keeps [.line] (s.atMs ms) t ∧ Replies src .notApplicable [code, a, 0x00#8] [] idle t
    let backoff := 2 + (1023 - gr.claimUrgency) / 64 + s.figures.address % 8
    (s.Permits src false →
      (∃ t, exec (.hold src dst args ms) s = .next t ∧ unused 0x22#8 t ∧ OtherGroups g s t ∧
        Keeps [.groups, .line, .events, .service, .overrun] (s.atMs ms) t ∧ RestartNoted s t ∧
        EventsKept [.loadOver] s t ∧
        (gr.state ≠ .proposed → Unlatched s t) ∧
        (gr.state ≠ .unused →
          (gr.state ≠ .proposed →
            t.group g = { gr with held := true, dirty := true } ∧ Replies src .ok [0x22#8, a, 0x00#8] [] idle t) ∧
          (gr.state = .proposed →
            t.group g =
              { gr with held := true, dirty := true, state := .due, claim := none, backoff := backoff } ∧
            withdrawn 0x22#8 t))) ∧
      (∃ t, exec (.resume src dst args ms) s = .next t ∧ unused 0x23#8 t ∧ OtherGroups g s t ∧
        Keeps [.groups, .line] (s.atMs ms) t ∧
        (gr.state ≠ .unused → Replies src .ok [0x23#8, a, 0x00#8] [] idle t ∧
          t.group g = { gr with held := false, forced := false, dirty := true })) ∧
      ∃ t, exec (.cancel src dst args ms) s = .next t ∧ unused 0x25#8 t ∧ OtherGroups g s t ∧
        Keeps [.groups, .lums, .mem, .line, .events, .service, .overrun] (s.atMs ms) t ∧ RestartNoted s t ∧
        EventsKept [.loadOver, .testAborted, .recordCrcError] s t ∧
        (gr.state = .proposed → Withdrawn g s t ∧ withdrawn 0x25#8 t) ∧
        (gr.state ≠ .proposed → Unlatched s t) ∧
        (gr.state = .testing →
          Replies src .ok [0x25#8, a, 0x00#8] [] (endTest g .cancelled true { s.atMs ms with line := idle }).line t ∧
          (gr.claim = none → Replies src .ok [0x25#8, a, 0x00#8] [] idle t) ∧
          (gr.claim ≠ none → s.line.size < 12 → s.line.backlog = [] → ∀ k, (t.group g).recharge = some k →
            let f : TxFrame :=
              .claim g
                { phase := .recovering, urgency := gr.claimUrgency, weight := gr.defn.members.length, remaining := k,
                  home := gr.defn.home, neighbours := gr.defn.neighbours }
            Replies src .ok [0x25#8, a, 0x00#8] [] { idle with waiting := joined f idle.waiting } t) ∧
          EndsEarly g .cancelled true s t ∧ (∀ n, n ∉ gr.defn.members → t.lum n = s.lum n) ∧
          (s.events.cells.length = 26 → Occurs .testAborted (groupDetail g) s t)) ∧
        (gr.state ≠ .testing →
          t.lums = s.lums ∧ t.events.cell Event.testAborted.number = s.events.cell Event.testAborted.number) ∧
        (gr.state = .testing → HistoryOffered (linesOf g s t) s t) ∧
        (gr.state ≠ .proposed → gr.state ≠ .testing →
          Keeps [.line] (s.atMs ms) t ∧ Replies src .notApplicable [0x25#8, a, 0x00#8] [] idle t)) ∧
    (s.Permits src true →
      ∃ t, exec (.force src dst args ms) s = .next t ∧ unused 0x24#8 t ∧ OtherGroups g s t ∧
        Keeps [.groups, .line] (s.atMs ms) t ∧
        (gr.state ≠ .unused → Replies src .ok [0x24#8, a, 0x00#8] [] idle t ∧ t.group g = { gr with forced := true }))

/-- R108, R121, R134, R170, R174, R176, R178: the commands that name no group. That the restart is not taken at once
where the full queue refuses its REPLY, which then never leaves the queue, is the model's reading (log 36). -/
def Obligations.StationCommandsAct : Prop :=
  (∀ (s : State) (src dst : Byte) (args : List Byte) (ms : Nat), s.HearsConsole src dst → s.Permits src false →
    let first := args.getD 0 0x00#8
    let answers (code : Byte) (status : Status) (t : State) : Prop :=
      Replies src status [code, first, 0x00#8] [] { s.line with receiver := .idle } t
    (4 ≤ args.length →
      let value := fieldAt args 0 4
      (value = 0xFFFFFFFF →
        ∃ t, exec (.setTime src dst args ms) s = .next t ∧ Keeps [.line] (s.atMs ms) t ∧ answers 0x21#8 .badArgument t) ∧
      (value ≠ 0xFFFFFFFF →
        ∃ t, exec (.setTime src dst args ms) s = .next t ∧ Keeps [.calendar, .line] (s.atMs ms) t ∧ answers 0x21#8 .ok t ∧
          t.calendar = { s.calendar with minutes := value, seconds := 0, valid := true }) ∧
      ∃ t, exec (.clearEvents src dst args ms) s = .next t ∧ Keeps [.events, .line] (s.atMs ms) t ∧ answers 0x26#8 .ok t ∧
        t.events.reports = s.events.reports ∧ t.events.destinations = s.events.destinations ∧
        t.events.cells.length = s.events.cells.length ∧
        ∀ k, t.events.cell k =
          (if value.testBit k = true ∧ k < s.events.cells.length then
            { s.events.cell k with raw := false, status := false }
           else s.events.cell k)) ∧
    (∃ t, exec (.clearIsolation src dst args ms) s = .next t ∧ Keeps [.sup, .line] (s.atMs ms) t ∧
      Replies src .ok [0x27#8, 0x00#8, 0x00#8] [] { s.line with receiver := .idle } t ∧
      t.sup = { s.sup with isolations := 0 }) ∧
    (1 ≤ args.length → first.toNat < 128 →
      ∃ t, exec (.probe src dst args ms) s = .next t ∧ Keeps [.loop, .line] (s.atMs ms) t ∧
        (s.loop.slot ≠ none → answers 0x28#8 .busy t ∧ t.loop = s.loop) ∧
        (s.loop.slot = none →
          ((s.lum first.toNat).branch = none → answers 0x28#8 .notSent t ∧ t.loop = s.loop) ∧
          (∀ b, (s.lum first.toNat).branch = some b →
            ((s.branch b).down = true → answers 0x28#8 .notSent t ∧ t.loop = s.loop) ∧
            ((s.branch b).down = false →
              answers 0x28#8 .ok t ∧
              t.loop = { s.loop with slot := some { lum := first.toNat, console := src, inFlight := false } }))))) ∧
  ∀ (s : State) (src dst : Byte) (args : List Byte) (ms : Nat), s.HearsConsole src dst →
    (s.sup.mode = .unconfigured ∨ ∃ a ∈ s.service.authorised, a.on = true ∧ a.address = src) →
    s.service.key = .active → s.service.restart = none →
    ∃ t, exec (.restart src dst args ms) s = .next t ∧ Keeps [.service, .line] (s.atMs ms) t ∧
      t.service = { s.service with restart := some 2, replyGone := false } ∧
      Answered { console := src, status := .ok, echo := [0x29#8, 0x00#8, 0x00#8], data := [], restart := true }
        { s.line with receiver := .idle } t

/-- R174 to R176, R178: the checks of a COMMAND, and the codes that are in no table. The echo of an empty COMMAND is
free (log 5). That the echo of a code in no table carries the byte after it is the model's choice (log 38). -/
def Obligations.CommandsAreChecked : Prop :=
  (∀ (s : State) (src dst : Byte) (args : List Byte) (ms : Nat) (code : Byte) (i : Instr), s.HearsConsole src dst →
    s.events.cells.length = 26 →
    ((code, i) ∈
        [(0x21#8, Instr.setTime src dst args ms), (0x22#8, Instr.hold src dst args ms), (0x23#8, Instr.resume src dst args ms),
          (0x24#8, Instr.force src dst args ms), (0x25#8, Instr.cancel src dst args ms),
          (0x26#8, Instr.clearEvents src dst args ms), (0x27#8, Instr.clearIsolation src dst args ms),
          (0x28#8, Instr.probe src dst args ms), (0x29#8, Instr.restart src dst args ms)] ∨
      (¬ (0x21 ≤ code.toNat ∧ code.toNat ≤ 0x29) ∧ i = Instr.unknownServiceCode src dst .command (code :: args) ms)) →
    let first := if code = 0x27#8 ∨ code = 0x29#8 then 0x00#8 else args.getD 0 0x00#8
    let answers (status : Status) (t : State) : Prop :=
      Replies src status [code, first, 0x00#8] [] { s.line with receiver := .idle } t
    let authorised := s.sup.mode = .unconfigured ∨ ∃ a ∈ s.service.authorised, a.on = true ∧ a.address = src
    let keyed := code = 0x24#8 ∨ code = 0x29#8
    let short :=
      ((code = 0x21#8 ∨ code = 0x26#8) ∧ args.length < 4) ∨
      ((code = 0x22#8 ∨ code = 0x23#8 ∨ code = 0x24#8 ∨ code = 0x25#8) ∧ (args = [] ∨ 24 ≤ byteAt args 0)) ∨
      (code = 0x28#8 ∧ (args = [] ∨ 128 ≤ byteAt args 0)) ∨ ¬ (0x21 ≤ code.toNat ∧ code.toNat ≤ 0x29)
    (s.sup.mode = .unconfigured → code ≠ 0x29#8 →
      ∃ t, exec i s = .next t ∧ Keeps [.line] (s.atMs ms) t ∧ answers .unconfigured t) ∧
    (¬ authorised →
      ∃ t, exec i s = .next t ∧ Keeps [.line, .events] (s.atMs ms) t ∧ answers .refusedSource t ∧
        Occurs .serviceRefused (consoleDetail src) s t ∧ EventsKept [.serviceRefused] s t) ∧
    ((s.sup.mode = .unconfigured → code = 0x29#8) → authorised → keyed → s.service.key ≠ .active →
      ∃ t, exec i s = .next t ∧ Keeps [.line, .events] (s.atMs ms) t ∧ answers .refusedKey t ∧
        Occurs .serviceRefused (consoleDetail src) s t ∧ EventsKept [.serviceRefused] s t) ∧
    ((s.sup.mode = .unconfigured → code = 0x29#8) → authorised → (keyed → s.service.key = .active) →
      s.service.restart ≠ none →
      ∃ t, exec i s = .next t ∧ Keeps [.line] (s.atMs ms) t ∧ answers .busy t) ∧
    (s.sup.mode ≠ .unconfigured → authorised → (keyed → s.service.key = .active) → s.service.restart = none → short →
      ∃ t, exec i s = .next t ∧ Keeps [.line] (s.atMs ms) t ∧ answers .badArgument t)) ∧
  (∀ (s : State) (src dst : Byte) (ms : Nat), s.HearsConsole src dst → s.events.cells.length = 26 →
    let authorised := ∃ a ∈ s.service.authorised, a.on = true ∧ a.address = src
    ∃ t echo, exec (.unknownServiceCode src dst .command [] ms) s = .next t ∧ echo.length = 3 ∧
      let answers (status : Status) : Prop := Replies src status echo [] { s.line with receiver := .idle } t
      (s.sup.mode = .unconfigured → Keeps [.line, .free] (s.atMs ms) t ∧ answers .unconfigured) ∧
      (s.sup.mode ≠ .unconfigured → ¬ authorised →
        Keeps [.line, .free, .events] (s.atMs ms) t ∧ answers .refusedSource ∧
          Occurs .serviceRefused (consoleDetail src) s t ∧ EventsKept [.serviceRefused] s t) ∧
      (s.sup.mode ≠ .unconfigured → authorised → s.service.restart ≠ none →
        Keeps [.line, .free] (s.atMs ms) t ∧ answers .busy) ∧
      (s.sup.mode ≠ .unconfigured → authorised → s.service.restart = none →
        Keeps [.line, .free] (s.atMs ms) t ∧ answers .badArgument)) ∧
  ∀ (s : State) (src dst item index sub : Byte) (rest : List Byte) (ms : Nat), s.HearsConsole src dst →
    ¬ (1 ≤ item.toNat ∧ item.toNat ≤ 7) →
    ∃ t, exec (.unknownServiceCode src dst .query (item :: index :: sub :: rest) ms) s = .next t ∧ Keeps [.line] (s.atMs ms) t ∧
      Replies src .badArgument [item, index, sub] [] { s.line with receiver := .idle } t

/-- R89, R153, R159, R160, R162, R164, R165 and the layouts of section 9.2: the arbiter of the record memory. The
bytes that no table names are free values (log 4), of which only their number is stated. -/
def Obligations.MemoryIsGrantedInTurn : Prop :=
  ∀ s : State, s.powered = true → s.sup.mode ≠ .loading → s.mem.txn = none → s.TablesWhole →
    let record (fields : List (Nat × Nat)) (pad : List Byte) : List Byte :=
      laidOut fields ++ pad ++ bytesBE 2 (crc16 (laidOut fields ++ pad)).toNat
    let work (r : Requester) : Prop :=
      match r with
      | .appender => s.mem.appender ≠ []
      | .flusher => (∃ g, g < 24 ∧ (s.group g).dirty = true) ∨ (∃ n, n < 128 ∧ (s.lum n).dirty = true)
      | .fill => ∃ n ∈ s.mem.fillPending, ∀ l ∈ s.mem.appender, l.lum ≠ n
    ((∀ r, ¬ work r) → exec .memoryGrant s = .next s) ∧
    ∀ r, work r → (r = s.mem.turn ∨ ¬ work s.mem.turn) →
      (r = s.mem.turn ∨ r = s.mem.turn.after ∨ ¬ work s.mem.turn.after) →
      ∃ t x, exec .memoryGrant s = .next t ∧ Keeps [.groups, .lums, .mem, .free] s t ∧
        t.mem = { s.mem with txn := some x, turn := r.after } ∧
        (r = .appender → t.groups = s.groups ∧ t.lums = s.lums ∧
          ∀ l rest, s.mem.appender = l :: rest →
            ∃ pad, pad.length = 6 ∧
              x = .append l (0x2000 + 128 * l.lum + 16 * (s.lum l.lum).record.next) (record l.shownFields pad)) ∧
        (r = .flusher →
          (∀ g, g < 24 → (s.group g).dirty = true → (∀ h, h < g → (s.group h).dirty = false) →
            t.lums = s.lums ∧ OtherGroups g s t ∧ t.group g = { s.group g with dirty := false } ∧
            ∃ pad, pad.length = 15 ∧
              x = .flushGroup g (0x0200 + 32 * g) (record (s.group g).shownRecord pad)) ∧
          ((∀ g, g < 24 → (s.group g).dirty = false) →
            ∀ n, n < 128 → (s.lum n).dirty = true → (∀ m, m < n → (s.lum m).dirty = false) →
              t.groups = s.groups ∧ OtherLums n s t ∧ t.lum n = { s.lum n with dirty := false } ∧
              ∃ pad, pad.length = 20 ∧
                x = .flushLum n (0x0800 + 32 * n) (record (s.lum n).record.shownFields pad))) ∧
        (r = .fill → t.groups = s.groups ∧ t.lums = s.lums ∧
          ∃ before n after, s.mem.fillPending = before ++ n :: after ∧ x = .fill n false ∧
            (∀ l ∈ s.mem.appender, l.lum ≠ n) ∧ ∀ m ∈ before, ∃ l ∈ s.mem.appender, l.lum = m)

/-- R153, R160, R162, R164: the completions of the record memory's transactions. -/
def Obligations.MemoryTransactionsComplete : Prop :=
  (∀ (s : State) (offset : Nat) (bytes : List Byte), s.powered = true →
    let written (t : State) : Prop :=
      (∀ a, (a < offset ∨ offset + bytes.length ≤ a) → t.mem.nvm.read a = s.mem.nvm.read a) ∧
      ∀ i b, bytes[i]? = some b → t.mem.nvm.read (offset + i) = b
    (((∃ g, s.mem.txn = some (.flushGroup g offset bytes)) ∨ (∃ n, s.mem.txn = some (.flushLum n offset bytes))) →
      ∃ t, exec .flushComplete s = .next t ∧ Keeps [.mem] s t ∧ written t ∧
        t.mem = { s.mem with nvm := t.mem.nvm, txn := none }) ∧
    ∀ l, s.mem.txn = some (.append l offset bytes) → l.lum < s.lums.length →
      ∃ t, exec .historyLineWritten s = .next t ∧ Keeps [.mem, .lums] s t ∧ written t ∧
        t.mem = { s.mem with nvm := t.mem.nvm, appender := s.mem.appender.drop 1, txn := none } ∧
        OtherLums l.lum s t ∧
        t.lum l.lum =
          { s.lum l.lum with
            dirty := true
            record :=
              { (s.lum l.lum).record with
                next := ((s.lum l.lum).record.next + 1) % 8, count := min 8 ((s.lum l.lum).record.count + 1) } }) ∧
  ∀ (s : State) (n : Nat) (arrived : Bool) (answer : MemAnswer), s.powered = true →
    s.mem.txn = some (.fill n arrived) →
    let read := s.mem.nvm.answer (0x2000 + 128 * n) 128 answer
    let lines :=
      (List.range 8).map (fun i =>
        ((read.2.drop (16 * i)).take 16, crc16Good ((read.2.drop (16 * i)).take 16)))
    ∃ t, exec (.fillComplete answer) s = .next t ∧ Keeps [.mem] s t ∧
      (arrived = true → t.mem = { s.mem with nvm := read.1, txn := none }) ∧
      (arrived = false →
        t.mem =
          { s.mem with
            nvm := read.1, txn := none
            cache := s.mem.cache.drop (if s.mem.cache.length < 8 then 0 else 1) ++ [{ lum := n, lines := lines }]
            fillPending := s.mem.fillPending.filter (fun m => decide (m ≠ n)) })
end

