-- ==== Sys2Proof/Laws/State.lean ====
section
/-! SUPPORT. One lemma per field per named update of the state, and the reads of a table after an update of one of its
entries, so that no later proof unfolds a record update. -/

namespace Sys2Proof.Machine

/-! ### modGroup -/

@[simp] theorem State.modGroup_powered (s : State) (g : Nat) (f : Group → Group) : (s.modGroup g f).powered = s.powered := rfl
@[simp] theorem State.modGroup_clock (s : State) (g : Nat) (f : Group → Group) : (s.modGroup g f).clock = s.clock := rfl
@[simp] theorem State.modGroup_calendar (s : State) (g : Nat) (f : Group → Group) : (s.modGroup g f).calendar = s.calendar := rfl
@[simp] theorem State.modGroup_pins (s : State) (g : Nat) (f : Group → Group) : (s.modGroup g f).pins = s.pins := rfl
@[simp] theorem State.modGroup_inputs (s : State) (g : Nat) (f : Group → Group) : (s.modGroup g f).inputs = s.inputs := rfl
@[simp] theorem State.modGroup_sup (s : State) (g : Nat) (f : Group → Group) : (s.modGroup g f).sup = s.sup := rfl
@[simp] theorem State.modGroup_figures (s : State) (g : Nat) (f : Group → Group) : (s.modGroup g f).figures = s.figures := rfl
@[simp] theorem State.modGroup_loader (s : State) (g : Nat) (f : Group → Group) : (s.modGroup g f).loader = s.loader := rfl
@[simp] theorem State.modGroup_groups (s : State) (g : Nat) (f : Group → Group) : (s.modGroup g f).groups = s.groups.modify g f := rfl
@[simp] theorem State.modGroup_lums (s : State) (g : Nat) (f : Group → Group) : (s.modGroup g f).lums = s.lums := rfl
@[simp] theorem State.modGroup_beacon (s : State) (g : Nat) (f : Group → Group) : (s.modGroup g f).beacon = s.beacon := rfl
@[simp] theorem State.modGroup_overrun (s : State) (g : Nat) (f : Group → Group) : (s.modGroup g f).overrun = s.overrun := rfl
@[simp] theorem State.modGroup_view (s : State) (g : Nat) (f : Group → Group) : (s.modGroup g f).view = s.view := rfl
@[simp] theorem State.modGroup_overflow (s : State) (g : Nat) (f : Group → Group) : (s.modGroup g f).overflow = s.overflow := rfl
@[simp] theorem State.modGroup_loop (s : State) (g : Nat) (f : Group → Group) : (s.modGroup g f).loop = s.loop := rfl
@[simp] theorem State.modGroup_line (s : State) (g : Nat) (f : Group → Group) : (s.modGroup g f).line = s.line := rfl
@[simp] theorem State.modGroup_mem (s : State) (g : Nat) (f : Group → Group) : (s.modGroup g f).mem = s.mem := rfl
@[simp] theorem State.modGroup_events (s : State) (g : Nat) (f : Group → Group) : (s.modGroup g f).events = s.events := rfl
@[simp] theorem State.modGroup_service (s : State) (g : Nat) (f : Group → Group) : (s.modGroup g f).service = s.service := rfl
@[simp] theorem State.modGroup_lamps (s : State) (g : Nat) (f : Group → Group) : (s.modGroup g f).lamps = s.lamps := rfl
@[simp] theorem State.modGroup_free (s : State) (g : Nat) (f : Group → Group) : (s.modGroup g f).free = s.free := rfl
@[simp] theorem State.modGroup_pending (s : State) (g : Nat) (f : Group → Group) : (s.modGroup g f).pending = s.pending := rfl

/-! ### modLum -/

@[simp] theorem State.modLum_powered (s : State) (n : Nat) (f : Lum → Lum) : (s.modLum n f).powered = s.powered := rfl
@[simp] theorem State.modLum_clock (s : State) (n : Nat) (f : Lum → Lum) : (s.modLum n f).clock = s.clock := rfl
@[simp] theorem State.modLum_calendar (s : State) (n : Nat) (f : Lum → Lum) : (s.modLum n f).calendar = s.calendar := rfl
@[simp] theorem State.modLum_pins (s : State) (n : Nat) (f : Lum → Lum) : (s.modLum n f).pins = s.pins := rfl
@[simp] theorem State.modLum_inputs (s : State) (n : Nat) (f : Lum → Lum) : (s.modLum n f).inputs = s.inputs := rfl
@[simp] theorem State.modLum_sup (s : State) (n : Nat) (f : Lum → Lum) : (s.modLum n f).sup = s.sup := rfl
@[simp] theorem State.modLum_figures (s : State) (n : Nat) (f : Lum → Lum) : (s.modLum n f).figures = s.figures := rfl
@[simp] theorem State.modLum_loader (s : State) (n : Nat) (f : Lum → Lum) : (s.modLum n f).loader = s.loader := rfl
@[simp] theorem State.modLum_groups (s : State) (n : Nat) (f : Lum → Lum) : (s.modLum n f).groups = s.groups := rfl
@[simp] theorem State.modLum_lums (s : State) (n : Nat) (f : Lum → Lum) : (s.modLum n f).lums = s.lums.modify n f := rfl
@[simp] theorem State.modLum_beacon (s : State) (n : Nat) (f : Lum → Lum) : (s.modLum n f).beacon = s.beacon := rfl
@[simp] theorem State.modLum_overrun (s : State) (n : Nat) (f : Lum → Lum) : (s.modLum n f).overrun = s.overrun := rfl
@[simp] theorem State.modLum_view (s : State) (n : Nat) (f : Lum → Lum) : (s.modLum n f).view = s.view := rfl
@[simp] theorem State.modLum_overflow (s : State) (n : Nat) (f : Lum → Lum) : (s.modLum n f).overflow = s.overflow := rfl
@[simp] theorem State.modLum_loop (s : State) (n : Nat) (f : Lum → Lum) : (s.modLum n f).loop = s.loop := rfl
@[simp] theorem State.modLum_line (s : State) (n : Nat) (f : Lum → Lum) : (s.modLum n f).line = s.line := rfl
@[simp] theorem State.modLum_mem (s : State) (n : Nat) (f : Lum → Lum) : (s.modLum n f).mem = s.mem := rfl
@[simp] theorem State.modLum_events (s : State) (n : Nat) (f : Lum → Lum) : (s.modLum n f).events = s.events := rfl
@[simp] theorem State.modLum_service (s : State) (n : Nat) (f : Lum → Lum) : (s.modLum n f).service = s.service := rfl
@[simp] theorem State.modLum_lamps (s : State) (n : Nat) (f : Lum → Lum) : (s.modLum n f).lamps = s.lamps := rfl
@[simp] theorem State.modLum_free (s : State) (n : Nat) (f : Lum → Lum) : (s.modLum n f).free = s.free := rfl
@[simp] theorem State.modLum_pending (s : State) (n : Nat) (f : Lum → Lum) : (s.modLum n f).pending = s.pending := rfl

/-! ### setLine -/

@[simp] theorem State.setLine_powered (s : State) (v : Line) : (s.setLine v).powered = s.powered := rfl
@[simp] theorem State.setLine_clock (s : State) (v : Line) : (s.setLine v).clock = s.clock := rfl
@[simp] theorem State.setLine_calendar (s : State) (v : Line) : (s.setLine v).calendar = s.calendar := rfl
@[simp] theorem State.setLine_pins (s : State) (v : Line) : (s.setLine v).pins = s.pins := rfl
@[simp] theorem State.setLine_inputs (s : State) (v : Line) : (s.setLine v).inputs = s.inputs := rfl
@[simp] theorem State.setLine_sup (s : State) (v : Line) : (s.setLine v).sup = s.sup := rfl
@[simp] theorem State.setLine_figures (s : State) (v : Line) : (s.setLine v).figures = s.figures := rfl
@[simp] theorem State.setLine_loader (s : State) (v : Line) : (s.setLine v).loader = s.loader := rfl
@[simp] theorem State.setLine_groups (s : State) (v : Line) : (s.setLine v).groups = s.groups := rfl
@[simp] theorem State.setLine_lums (s : State) (v : Line) : (s.setLine v).lums = s.lums := rfl
@[simp] theorem State.setLine_beacon (s : State) (v : Line) : (s.setLine v).beacon = s.beacon := rfl
@[simp] theorem State.setLine_overrun (s : State) (v : Line) : (s.setLine v).overrun = s.overrun := rfl
@[simp] theorem State.setLine_view (s : State) (v : Line) : (s.setLine v).view = s.view := rfl
@[simp] theorem State.setLine_overflow (s : State) (v : Line) : (s.setLine v).overflow = s.overflow := rfl
@[simp] theorem State.setLine_loop (s : State) (v : Line) : (s.setLine v).loop = s.loop := rfl
@[simp] theorem State.setLine_line (s : State) (v : Line) : (s.setLine v).line = v := rfl
@[simp] theorem State.setLine_mem (s : State) (v : Line) : (s.setLine v).mem = s.mem := rfl
@[simp] theorem State.setLine_events (s : State) (v : Line) : (s.setLine v).events = s.events := rfl
@[simp] theorem State.setLine_service (s : State) (v : Line) : (s.setLine v).service = s.service := rfl
@[simp] theorem State.setLine_lamps (s : State) (v : Line) : (s.setLine v).lamps = s.lamps := rfl
@[simp] theorem State.setLine_free (s : State) (v : Line) : (s.setLine v).free = s.free := rfl
@[simp] theorem State.setLine_pending (s : State) (v : Line) : (s.setLine v).pending = s.pending := rfl

/-! ### setMem -/

@[simp] theorem State.setMem_powered (s : State) (v : RecMem) : (s.setMem v).powered = s.powered := rfl
@[simp] theorem State.setMem_clock (s : State) (v : RecMem) : (s.setMem v).clock = s.clock := rfl
@[simp] theorem State.setMem_calendar (s : State) (v : RecMem) : (s.setMem v).calendar = s.calendar := rfl
@[simp] theorem State.setMem_pins (s : State) (v : RecMem) : (s.setMem v).pins = s.pins := rfl
@[simp] theorem State.setMem_inputs (s : State) (v : RecMem) : (s.setMem v).inputs = s.inputs := rfl
@[simp] theorem State.setMem_sup (s : State) (v : RecMem) : (s.setMem v).sup = s.sup := rfl
@[simp] theorem State.setMem_figures (s : State) (v : RecMem) : (s.setMem v).figures = s.figures := rfl
@[simp] theorem State.setMem_loader (s : State) (v : RecMem) : (s.setMem v).loader = s.loader := rfl
@[simp] theorem State.setMem_groups (s : State) (v : RecMem) : (s.setMem v).groups = s.groups := rfl
@[simp] theorem State.setMem_lums (s : State) (v : RecMem) : (s.setMem v).lums = s.lums := rfl
@[simp] theorem State.setMem_beacon (s : State) (v : RecMem) : (s.setMem v).beacon = s.beacon := rfl
@[simp] theorem State.setMem_overrun (s : State) (v : RecMem) : (s.setMem v).overrun = s.overrun := rfl
@[simp] theorem State.setMem_view (s : State) (v : RecMem) : (s.setMem v).view = s.view := rfl
@[simp] theorem State.setMem_overflow (s : State) (v : RecMem) : (s.setMem v).overflow = s.overflow := rfl
@[simp] theorem State.setMem_loop (s : State) (v : RecMem) : (s.setMem v).loop = s.loop := rfl
@[simp] theorem State.setMem_line (s : State) (v : RecMem) : (s.setMem v).line = s.line := rfl
@[simp] theorem State.setMem_mem (s : State) (v : RecMem) : (s.setMem v).mem = v := rfl
@[simp] theorem State.setMem_events (s : State) (v : RecMem) : (s.setMem v).events = s.events := rfl
@[simp] theorem State.setMem_service (s : State) (v : RecMem) : (s.setMem v).service = s.service := rfl
@[simp] theorem State.setMem_lamps (s : State) (v : RecMem) : (s.setMem v).lamps = s.lamps := rfl
@[simp] theorem State.setMem_free (s : State) (v : RecMem) : (s.setMem v).free = s.free := rfl
@[simp] theorem State.setMem_pending (s : State) (v : RecMem) : (s.setMem v).pending = s.pending := rfl

/-! ### setSup -/

@[simp] theorem State.setSup_powered (s : State) (v : Supervisor) : (s.setSup v).powered = s.powered := rfl
@[simp] theorem State.setSup_clock (s : State) (v : Supervisor) : (s.setSup v).clock = s.clock := rfl
@[simp] theorem State.setSup_calendar (s : State) (v : Supervisor) : (s.setSup v).calendar = s.calendar := rfl
@[simp] theorem State.setSup_pins (s : State) (v : Supervisor) : (s.setSup v).pins = s.pins := rfl
@[simp] theorem State.setSup_inputs (s : State) (v : Supervisor) : (s.setSup v).inputs = s.inputs := rfl
@[simp] theorem State.setSup_sup (s : State) (v : Supervisor) : (s.setSup v).sup = v := rfl
@[simp] theorem State.setSup_figures (s : State) (v : Supervisor) : (s.setSup v).figures = s.figures := rfl
@[simp] theorem State.setSup_loader (s : State) (v : Supervisor) : (s.setSup v).loader = s.loader := rfl
@[simp] theorem State.setSup_groups (s : State) (v : Supervisor) : (s.setSup v).groups = s.groups := rfl
@[simp] theorem State.setSup_lums (s : State) (v : Supervisor) : (s.setSup v).lums = s.lums := rfl
@[simp] theorem State.setSup_beacon (s : State) (v : Supervisor) : (s.setSup v).beacon = s.beacon := rfl
@[simp] theorem State.setSup_overrun (s : State) (v : Supervisor) : (s.setSup v).overrun = s.overrun := rfl
@[simp] theorem State.setSup_view (s : State) (v : Supervisor) : (s.setSup v).view = s.view := rfl
@[simp] theorem State.setSup_overflow (s : State) (v : Supervisor) : (s.setSup v).overflow = s.overflow := rfl
@[simp] theorem State.setSup_loop (s : State) (v : Supervisor) : (s.setSup v).loop = s.loop := rfl
@[simp] theorem State.setSup_line (s : State) (v : Supervisor) : (s.setSup v).line = s.line := rfl
@[simp] theorem State.setSup_mem (s : State) (v : Supervisor) : (s.setSup v).mem = s.mem := rfl
@[simp] theorem State.setSup_events (s : State) (v : Supervisor) : (s.setSup v).events = s.events := rfl
@[simp] theorem State.setSup_service (s : State) (v : Supervisor) : (s.setSup v).service = s.service := rfl
@[simp] theorem State.setSup_lamps (s : State) (v : Supervisor) : (s.setSup v).lamps = s.lamps := rfl
@[simp] theorem State.setSup_free (s : State) (v : Supervisor) : (s.setSup v).free = s.free := rfl
@[simp] theorem State.setSup_pending (s : State) (v : Supervisor) : (s.setSup v).pending = s.pending := rfl

/-! ### setView -/

@[simp] theorem State.setView_powered (s : State) (v : List Entry) : (s.setView v).powered = s.powered := rfl
@[simp] theorem State.setView_clock (s : State) (v : List Entry) : (s.setView v).clock = s.clock := rfl
@[simp] theorem State.setView_calendar (s : State) (v : List Entry) : (s.setView v).calendar = s.calendar := rfl
@[simp] theorem State.setView_pins (s : State) (v : List Entry) : (s.setView v).pins = s.pins := rfl
@[simp] theorem State.setView_inputs (s : State) (v : List Entry) : (s.setView v).inputs = s.inputs := rfl
@[simp] theorem State.setView_sup (s : State) (v : List Entry) : (s.setView v).sup = s.sup := rfl
@[simp] theorem State.setView_figures (s : State) (v : List Entry) : (s.setView v).figures = s.figures := rfl
@[simp] theorem State.setView_loader (s : State) (v : List Entry) : (s.setView v).loader = s.loader := rfl
@[simp] theorem State.setView_groups (s : State) (v : List Entry) : (s.setView v).groups = s.groups := rfl
@[simp] theorem State.setView_lums (s : State) (v : List Entry) : (s.setView v).lums = s.lums := rfl
@[simp] theorem State.setView_beacon (s : State) (v : List Entry) : (s.setView v).beacon = s.beacon := rfl
@[simp] theorem State.setView_overrun (s : State) (v : List Entry) : (s.setView v).overrun = s.overrun := rfl
@[simp] theorem State.setView_view (s : State) (v : List Entry) : (s.setView v).view = v := rfl
@[simp] theorem State.setView_overflow (s : State) (v : List Entry) : (s.setView v).overflow = s.overflow := rfl
@[simp] theorem State.setView_loop (s : State) (v : List Entry) : (s.setView v).loop = s.loop := rfl
@[simp] theorem State.setView_line (s : State) (v : List Entry) : (s.setView v).line = s.line := rfl
@[simp] theorem State.setView_mem (s : State) (v : List Entry) : (s.setView v).mem = s.mem := rfl
@[simp] theorem State.setView_events (s : State) (v : List Entry) : (s.setView v).events = s.events := rfl
@[simp] theorem State.setView_service (s : State) (v : List Entry) : (s.setView v).service = s.service := rfl
@[simp] theorem State.setView_lamps (s : State) (v : List Entry) : (s.setView v).lamps = s.lamps := rfl
@[simp] theorem State.setView_free (s : State) (v : List Entry) : (s.setView v).free = s.free := rfl
@[simp] theorem State.setView_pending (s : State) (v : List Entry) : (s.setView v).pending = s.pending := rfl

/-! ### setPins -/

@[simp] theorem State.setPins_powered (s : State) (v : Pins) : (s.setPins v).powered = s.powered := rfl
@[simp] theorem State.setPins_clock (s : State) (v : Pins) : (s.setPins v).clock = s.clock := rfl
@[simp] theorem State.setPins_calendar (s : State) (v : Pins) : (s.setPins v).calendar = s.calendar := rfl
@[simp] theorem State.setPins_pins (s : State) (v : Pins) : (s.setPins v).pins = v := rfl
@[simp] theorem State.setPins_inputs (s : State) (v : Pins) : (s.setPins v).inputs = s.inputs := rfl
@[simp] theorem State.setPins_sup (s : State) (v : Pins) : (s.setPins v).sup = s.sup := rfl
@[simp] theorem State.setPins_figures (s : State) (v : Pins) : (s.setPins v).figures = s.figures := rfl
@[simp] theorem State.setPins_loader (s : State) (v : Pins) : (s.setPins v).loader = s.loader := rfl
@[simp] theorem State.setPins_groups (s : State) (v : Pins) : (s.setPins v).groups = s.groups := rfl
@[simp] theorem State.setPins_lums (s : State) (v : Pins) : (s.setPins v).lums = s.lums := rfl
@[simp] theorem State.setPins_beacon (s : State) (v : Pins) : (s.setPins v).beacon = s.beacon := rfl
@[simp] theorem State.setPins_overrun (s : State) (v : Pins) : (s.setPins v).overrun = s.overrun := rfl
@[simp] theorem State.setPins_view (s : State) (v : Pins) : (s.setPins v).view = s.view := rfl
@[simp] theorem State.setPins_overflow (s : State) (v : Pins) : (s.setPins v).overflow = s.overflow := rfl
@[simp] theorem State.setPins_loop (s : State) (v : Pins) : (s.setPins v).loop = s.loop := rfl
@[simp] theorem State.setPins_line (s : State) (v : Pins) : (s.setPins v).line = s.line := rfl
@[simp] theorem State.setPins_mem (s : State) (v : Pins) : (s.setPins v).mem = s.mem := rfl
@[simp] theorem State.setPins_events (s : State) (v : Pins) : (s.setPins v).events = s.events := rfl
@[simp] theorem State.setPins_service (s : State) (v : Pins) : (s.setPins v).service = s.service := rfl
@[simp] theorem State.setPins_lamps (s : State) (v : Pins) : (s.setPins v).lamps = s.lamps := rfl
@[simp] theorem State.setPins_free (s : State) (v : Pins) : (s.setPins v).free = s.free := rfl
@[simp] theorem State.setPins_pending (s : State) (v : Pins) : (s.setPins v).pending = s.pending := rfl

/-! ### setInputs -/

@[simp] theorem State.setInputs_powered (s : State) (v : Inputs) : (s.setInputs v).powered = s.powered := rfl
@[simp] theorem State.setInputs_clock (s : State) (v : Inputs) : (s.setInputs v).clock = s.clock := rfl
@[simp] theorem State.setInputs_calendar (s : State) (v : Inputs) : (s.setInputs v).calendar = s.calendar := rfl
@[simp] theorem State.setInputs_pins (s : State) (v : Inputs) : (s.setInputs v).pins = s.pins := rfl
@[simp] theorem State.setInputs_inputs (s : State) (v : Inputs) : (s.setInputs v).inputs = v := rfl
@[simp] theorem State.setInputs_sup (s : State) (v : Inputs) : (s.setInputs v).sup = s.sup := rfl
@[simp] theorem State.setInputs_figures (s : State) (v : Inputs) : (s.setInputs v).figures = s.figures := rfl
@[simp] theorem State.setInputs_loader (s : State) (v : Inputs) : (s.setInputs v).loader = s.loader := rfl
@[simp] theorem State.setInputs_groups (s : State) (v : Inputs) : (s.setInputs v).groups = s.groups := rfl
@[simp] theorem State.setInputs_lums (s : State) (v : Inputs) : (s.setInputs v).lums = s.lums := rfl
@[simp] theorem State.setInputs_beacon (s : State) (v : Inputs) : (s.setInputs v).beacon = s.beacon := rfl
@[simp] theorem State.setInputs_overrun (s : State) (v : Inputs) : (s.setInputs v).overrun = s.overrun := rfl
@[simp] theorem State.setInputs_view (s : State) (v : Inputs) : (s.setInputs v).view = s.view := rfl
@[simp] theorem State.setInputs_overflow (s : State) (v : Inputs) : (s.setInputs v).overflow = s.overflow := rfl
@[simp] theorem State.setInputs_loop (s : State) (v : Inputs) : (s.setInputs v).loop = s.loop := rfl
@[simp] theorem State.setInputs_line (s : State) (v : Inputs) : (s.setInputs v).line = s.line := rfl
@[simp] theorem State.setInputs_mem (s : State) (v : Inputs) : (s.setInputs v).mem = s.mem := rfl
@[simp] theorem State.setInputs_events (s : State) (v : Inputs) : (s.setInputs v).events = s.events := rfl
@[simp] theorem State.setInputs_service (s : State) (v : Inputs) : (s.setInputs v).service = s.service := rfl
@[simp] theorem State.setInputs_lamps (s : State) (v : Inputs) : (s.setInputs v).lamps = s.lamps := rfl
@[simp] theorem State.setInputs_free (s : State) (v : Inputs) : (s.setInputs v).free = s.free := rfl
@[simp] theorem State.setInputs_pending (s : State) (v : Inputs) : (s.setInputs v).pending = s.pending := rfl

/-! ### setService -/

@[simp] theorem State.setService_powered (s : State) (v : Service) : (s.setService v).powered = s.powered := rfl
@[simp] theorem State.setService_clock (s : State) (v : Service) : (s.setService v).clock = s.clock := rfl
@[simp] theorem State.setService_calendar (s : State) (v : Service) : (s.setService v).calendar = s.calendar := rfl
@[simp] theorem State.setService_pins (s : State) (v : Service) : (s.setService v).pins = s.pins := rfl
@[simp] theorem State.setService_inputs (s : State) (v : Service) : (s.setService v).inputs = s.inputs := rfl
@[simp] theorem State.setService_sup (s : State) (v : Service) : (s.setService v).sup = s.sup := rfl
@[simp] theorem State.setService_figures (s : State) (v : Service) : (s.setService v).figures = s.figures := rfl
@[simp] theorem State.setService_loader (s : State) (v : Service) : (s.setService v).loader = s.loader := rfl
@[simp] theorem State.setService_groups (s : State) (v : Service) : (s.setService v).groups = s.groups := rfl
@[simp] theorem State.setService_lums (s : State) (v : Service) : (s.setService v).lums = s.lums := rfl
@[simp] theorem State.setService_beacon (s : State) (v : Service) : (s.setService v).beacon = s.beacon := rfl
@[simp] theorem State.setService_overrun (s : State) (v : Service) : (s.setService v).overrun = s.overrun := rfl
@[simp] theorem State.setService_view (s : State) (v : Service) : (s.setService v).view = s.view := rfl
@[simp] theorem State.setService_overflow (s : State) (v : Service) : (s.setService v).overflow = s.overflow := rfl
@[simp] theorem State.setService_loop (s : State) (v : Service) : (s.setService v).loop = s.loop := rfl
@[simp] theorem State.setService_line (s : State) (v : Service) : (s.setService v).line = s.line := rfl
@[simp] theorem State.setService_mem (s : State) (v : Service) : (s.setService v).mem = s.mem := rfl
@[simp] theorem State.setService_events (s : State) (v : Service) : (s.setService v).events = s.events := rfl
@[simp] theorem State.setService_service (s : State) (v : Service) : (s.setService v).service = v := rfl
@[simp] theorem State.setService_lamps (s : State) (v : Service) : (s.setService v).lamps = s.lamps := rfl
@[simp] theorem State.setService_free (s : State) (v : Service) : (s.setService v).free = s.free := rfl
@[simp] theorem State.setService_pending (s : State) (v : Service) : (s.setService v).pending = s.pending := rfl

/-! ### setNvm -/

@[simp] theorem State.setNvm_powered (s : State) (v : Memory) : (s.setNvm v).powered = s.powered := rfl
@[simp] theorem State.setNvm_clock (s : State) (v : Memory) : (s.setNvm v).clock = s.clock := rfl
@[simp] theorem State.setNvm_calendar (s : State) (v : Memory) : (s.setNvm v).calendar = s.calendar := rfl
@[simp] theorem State.setNvm_pins (s : State) (v : Memory) : (s.setNvm v).pins = s.pins := rfl
@[simp] theorem State.setNvm_inputs (s : State) (v : Memory) : (s.setNvm v).inputs = s.inputs := rfl
@[simp] theorem State.setNvm_sup (s : State) (v : Memory) : (s.setNvm v).sup = s.sup := rfl
@[simp] theorem State.setNvm_figures (s : State) (v : Memory) : (s.setNvm v).figures = s.figures := rfl
@[simp] theorem State.setNvm_loader (s : State) (v : Memory) : (s.setNvm v).loader = s.loader := rfl
@[simp] theorem State.setNvm_groups (s : State) (v : Memory) : (s.setNvm v).groups = s.groups := rfl
@[simp] theorem State.setNvm_lums (s : State) (v : Memory) : (s.setNvm v).lums = s.lums := rfl
@[simp] theorem State.setNvm_beacon (s : State) (v : Memory) : (s.setNvm v).beacon = s.beacon := rfl
@[simp] theorem State.setNvm_overrun (s : State) (v : Memory) : (s.setNvm v).overrun = s.overrun := rfl
@[simp] theorem State.setNvm_view (s : State) (v : Memory) : (s.setNvm v).view = s.view := rfl
@[simp] theorem State.setNvm_overflow (s : State) (v : Memory) : (s.setNvm v).overflow = s.overflow := rfl
@[simp] theorem State.setNvm_loop (s : State) (v : Memory) : (s.setNvm v).loop = s.loop := rfl
@[simp] theorem State.setNvm_line (s : State) (v : Memory) : (s.setNvm v).line = s.line := rfl
@[simp] theorem State.setNvm_mem (s : State) (v : Memory) : (s.setNvm v).mem = { s.mem with nvm := v } := rfl
@[simp] theorem State.setNvm_events (s : State) (v : Memory) : (s.setNvm v).events = s.events := rfl
@[simp] theorem State.setNvm_service (s : State) (v : Memory) : (s.setNvm v).service = s.service := rfl
@[simp] theorem State.setNvm_lamps (s : State) (v : Memory) : (s.setNvm v).lamps = s.lamps := rfl
@[simp] theorem State.setNvm_free (s : State) (v : Memory) : (s.setNvm v).free = s.free := rfl
@[simp] theorem State.setNvm_pending (s : State) (v : Memory) : (s.setNvm v).pending = s.pending := rfl

/-! ### tookFree -/

@[simp] theorem State.tookFree_powered (s : State) (k : Nat) : (s.tookFree k).powered = s.powered := rfl
@[simp] theorem State.tookFree_clock (s : State) (k : Nat) : (s.tookFree k).clock = s.clock := rfl
@[simp] theorem State.tookFree_calendar (s : State) (k : Nat) : (s.tookFree k).calendar = s.calendar := rfl
@[simp] theorem State.tookFree_pins (s : State) (k : Nat) : (s.tookFree k).pins = s.pins := rfl
@[simp] theorem State.tookFree_inputs (s : State) (k : Nat) : (s.tookFree k).inputs = s.inputs := rfl
@[simp] theorem State.tookFree_sup (s : State) (k : Nat) : (s.tookFree k).sup = s.sup := rfl
@[simp] theorem State.tookFree_figures (s : State) (k : Nat) : (s.tookFree k).figures = s.figures := rfl
@[simp] theorem State.tookFree_loader (s : State) (k : Nat) : (s.tookFree k).loader = s.loader := rfl
@[simp] theorem State.tookFree_groups (s : State) (k : Nat) : (s.tookFree k).groups = s.groups := rfl
@[simp] theorem State.tookFree_lums (s : State) (k : Nat) : (s.tookFree k).lums = s.lums := rfl
@[simp] theorem State.tookFree_beacon (s : State) (k : Nat) : (s.tookFree k).beacon = s.beacon := rfl
@[simp] theorem State.tookFree_overrun (s : State) (k : Nat) : (s.tookFree k).overrun = s.overrun := rfl
@[simp] theorem State.tookFree_view (s : State) (k : Nat) : (s.tookFree k).view = s.view := rfl
@[simp] theorem State.tookFree_overflow (s : State) (k : Nat) : (s.tookFree k).overflow = s.overflow := rfl
@[simp] theorem State.tookFree_loop (s : State) (k : Nat) : (s.tookFree k).loop = s.loop := rfl
@[simp] theorem State.tookFree_line (s : State) (k : Nat) : (s.tookFree k).line = s.line := rfl
@[simp] theorem State.tookFree_mem (s : State) (k : Nat) : (s.tookFree k).mem = s.mem := rfl
@[simp] theorem State.tookFree_events (s : State) (k : Nat) : (s.tookFree k).events = s.events := rfl
@[simp] theorem State.tookFree_service (s : State) (k : Nat) : (s.tookFree k).service = s.service := rfl
@[simp] theorem State.tookFree_lamps (s : State) (k : Nat) : (s.tookFree k).lamps = s.lamps := rfl
@[simp] theorem State.tookFree_free (s : State) (k : Nat) : (s.tookFree k).free = s.free + k := rfl
@[simp] theorem State.tookFree_pending (s : State) (k : Nat) : (s.tookFree k).pending = s.pending := rfl

/-! ### atMs -/

@[simp] theorem State.atMs_powered (s : State) (ms : Nat) : (s.atMs ms).powered = s.powered := rfl
@[simp] theorem State.atMs_clock (s : State) (ms : Nat) : (s.atMs ms).clock = { s.clock with ms := max s.clock.ms (min ms 999) } := rfl
@[simp] theorem State.atMs_calendar (s : State) (ms : Nat) : (s.atMs ms).calendar = s.calendar := rfl
@[simp] theorem State.atMs_pins (s : State) (ms : Nat) : (s.atMs ms).pins = s.pins := rfl
@[simp] theorem State.atMs_inputs (s : State) (ms : Nat) : (s.atMs ms).inputs = s.inputs := rfl
@[simp] theorem State.atMs_sup (s : State) (ms : Nat) : (s.atMs ms).sup = s.sup := rfl
@[simp] theorem State.atMs_figures (s : State) (ms : Nat) : (s.atMs ms).figures = s.figures := rfl
@[simp] theorem State.atMs_loader (s : State) (ms : Nat) : (s.atMs ms).loader = s.loader := rfl
@[simp] theorem State.atMs_groups (s : State) (ms : Nat) : (s.atMs ms).groups = s.groups := rfl
@[simp] theorem State.atMs_lums (s : State) (ms : Nat) : (s.atMs ms).lums = s.lums := rfl
@[simp] theorem State.atMs_beacon (s : State) (ms : Nat) : (s.atMs ms).beacon = s.beacon := rfl
@[simp] theorem State.atMs_overrun (s : State) (ms : Nat) : (s.atMs ms).overrun = s.overrun := rfl
@[simp] theorem State.atMs_view (s : State) (ms : Nat) : (s.atMs ms).view = s.view := rfl
@[simp] theorem State.atMs_overflow (s : State) (ms : Nat) : (s.atMs ms).overflow = s.overflow := rfl
@[simp] theorem State.atMs_loop (s : State) (ms : Nat) : (s.atMs ms).loop = s.loop := rfl
@[simp] theorem State.atMs_line (s : State) (ms : Nat) : (s.atMs ms).line = s.line := rfl
@[simp] theorem State.atMs_mem (s : State) (ms : Nat) : (s.atMs ms).mem = s.mem := rfl
@[simp] theorem State.atMs_events (s : State) (ms : Nat) : (s.atMs ms).events = s.events := rfl
@[simp] theorem State.atMs_service (s : State) (ms : Nat) : (s.atMs ms).service = s.service := rfl
@[simp] theorem State.atMs_lamps (s : State) (ms : Nat) : (s.atMs ms).lamps = s.lamps := rfl
@[simp] theorem State.atMs_free (s : State) (ms : Nat) : (s.atMs ms).free = s.free := rfl
@[simp] theorem State.atMs_pending (s : State) (ms : Nat) : (s.atMs ms).pending = s.pending := rfl

/-! ### setBranch -/

@[simp] theorem State.setBranch_powered (s : State) (b : BranchId) (v : Branch) : (s.setBranch b v).powered = s.powered := by
  cases b <;> rfl
@[simp] theorem State.setBranch_clock (s : State) (b : BranchId) (v : Branch) : (s.setBranch b v).clock = s.clock := by
  cases b <;> rfl
@[simp] theorem State.setBranch_calendar (s : State) (b : BranchId) (v : Branch) : (s.setBranch b v).calendar = s.calendar := by
  cases b <;> rfl
@[simp] theorem State.setBranch_pins (s : State) (b : BranchId) (v : Branch) : (s.setBranch b v).pins = s.pins := by
  cases b <;> rfl
@[simp] theorem State.setBranch_inputs (s : State) (b : BranchId) (v : Branch) : (s.setBranch b v).inputs = s.inputs := by
  cases b <;> rfl
@[simp] theorem State.setBranch_sup (s : State) (b : BranchId) (v : Branch) : (s.setBranch b v).sup = s.sup := by
  cases b <;> rfl
@[simp] theorem State.setBranch_figures (s : State) (b : BranchId) (v : Branch) : (s.setBranch b v).figures = s.figures := by
  cases b <;> rfl
@[simp] theorem State.setBranch_loader (s : State) (b : BranchId) (v : Branch) : (s.setBranch b v).loader = s.loader := by
  cases b <;> rfl
@[simp] theorem State.setBranch_groups (s : State) (b : BranchId) (v : Branch) : (s.setBranch b v).groups = s.groups := by
  cases b <;> rfl
@[simp] theorem State.setBranch_lums (s : State) (b : BranchId) (v : Branch) : (s.setBranch b v).lums = s.lums := by
  cases b <;> rfl
@[simp] theorem State.setBranch_beacon (s : State) (b : BranchId) (v : Branch) : (s.setBranch b v).beacon = s.beacon := by
  cases b <;> rfl
@[simp] theorem State.setBranch_overrun (s : State) (b : BranchId) (v : Branch) : (s.setBranch b v).overrun = s.overrun := by
  cases b <;> rfl
@[simp] theorem State.setBranch_view (s : State) (b : BranchId) (v : Branch) : (s.setBranch b v).view = s.view := by
  cases b <;> rfl
@[simp] theorem State.setBranch_overflow (s : State) (b : BranchId) (v : Branch) : (s.setBranch b v).overflow = s.overflow := by
  cases b <;> rfl
@[simp] theorem State.setBranch_line (s : State) (b : BranchId) (v : Branch) : (s.setBranch b v).line = s.line := by
  cases b <;> rfl
@[simp] theorem State.setBranch_mem (s : State) (b : BranchId) (v : Branch) : (s.setBranch b v).mem = s.mem := by
  cases b <;> rfl
@[simp] theorem State.setBranch_events (s : State) (b : BranchId) (v : Branch) : (s.setBranch b v).events = s.events := by
  cases b <;> rfl
@[simp] theorem State.setBranch_service (s : State) (b : BranchId) (v : Branch) : (s.setBranch b v).service = s.service := by
  cases b <;> rfl
@[simp] theorem State.setBranch_lamps (s : State) (b : BranchId) (v : Branch) : (s.setBranch b v).lamps = s.lamps := by
  cases b <;> rfl
@[simp] theorem State.setBranch_free (s : State) (b : BranchId) (v : Branch) : (s.setBranch b v).free = s.free := by
  cases b <;> rfl
@[simp] theorem State.setBranch_pending (s : State) (b : BranchId) (v : Branch) : (s.setBranch b v).pending = s.pending := by
  cases b <;> rfl
@[simp] theorem State.setBranch_slot (s : State) (b : BranchId) (v : Branch) : (s.setBranch b v).loop.slot = s.loop.slot := by
  cases b <;> rfl
@[simp] theorem State.setBranch_countdown (s : State) (b : BranchId) (v : Branch) :
    (s.setBranch b v).loop.sweepCountdown = s.loop.sweepCountdown := by
  cases b <;> rfl
@[simp] theorem State.branch_setBranch (s : State) (b : BranchId) (v : Branch) : (s.setBranch b v).branch b = v := by
  cases b <;> rfl
theorem State.branch_setBranch_ne (s : State) (b c : BranchId) (v : Branch) (h : c ≠ b) :
    (s.setBranch b v).branch c = s.branch c := by
  cases b <;> cases c <;> first | rfl | exact absurd rfl h

/-! ### The tables after an update -/

/-- An entry of the table after its own update. -/
theorem State.group_modGroup (s : State) (g : Nat) (f : Group → Group) (h : g < s.groups.length) :
    (s.modGroup g f).group g = f (s.group g) := by
  simp [State.group, List.getD_eq_getElem?_getD, List.getElem?_eq_getElem h]

/-- An entry of the table after the update of another. -/
theorem State.group_modGroup_ne (s : State) (g h : Nat) (f : Group → Group) (hne : h ≠ g) : (s.modGroup g f).group h = s.group h := by
  simp [State.group, List.getD_eq_getElem?_getD, Ne.symm hne]

/-- A number outside the table reads as an empty entry. -/
theorem State.group_outside (s : State) (h : Nat) (hh : s.groups.length ≤ h) : s.group h = Group.empty := by
  simp [State.group, List.getD_eq_getElem?_getD, List.getElem?_eq_none hh]

/-- An update that a predicate survives, made anywhere in the table. -/
theorem State.group_modGroup_ind {P : Group → Prop} (s : State) (g h : Nat) (f : Group → Group) (hs : P (s.group h))
    (hf : P (s.group g) → P (f (s.group g))) : P ((s.modGroup g f).group h) := by
  by_cases hne : h = g
  · subst hne
    by_cases hl : h < s.groups.length
    · rw [State.group_modGroup s h f hl]; exact hf hs
    · rw [State.group_outside _ h (by simpa using Nat.le_of_not_lt hl)]
      rwa [State.group_outside s h (Nat.le_of_not_lt hl)] at hs
  · rw [State.group_modGroup_ne s g h f hne]; exact hs

@[simp] theorem State.modGroup_groups_length (s : State) (g : Nat) (f : Group → Group) :
    (s.modGroup g f).groups.length = s.groups.length := by
  simp

/-- An entry of the table after its own update. -/
theorem State.lum_modLum (s : State) (n : Nat) (f : Lum → Lum) (h : n < s.lums.length) :
    (s.modLum n f).lum n = f (s.lum n) := by
  simp [State.lum, List.getD_eq_getElem?_getD, List.getElem?_eq_getElem h]

/-- An entry of the table after the update of another. -/
theorem State.lum_modLum_ne (s : State) (n h : Nat) (f : Lum → Lum) (hne : h ≠ n) : (s.modLum n f).lum h = s.lum h := by
  simp [State.lum, List.getD_eq_getElem?_getD, Ne.symm hne]

/-- A number outside the table reads as an empty entry. -/
theorem State.lum_outside (s : State) (h : Nat) (hh : s.lums.length ≤ h) : s.lum h = Lum.empty := by
  simp [State.lum, List.getD_eq_getElem?_getD, List.getElem?_eq_none hh]

/-- An update that a predicate survives, made anywhere in the table. -/
theorem State.lum_modLum_ind {P : Lum → Prop} (s : State) (n h : Nat) (f : Lum → Lum) (hs : P (s.lum h))
    (hf : P (s.lum n) → P (f (s.lum n))) : P ((s.modLum n f).lum h) := by
  by_cases hne : h = n
  · subst hne
    by_cases hl : h < s.lums.length
    · rw [State.lum_modLum s h f hl]; exact hf hs
    · rw [State.lum_outside _ h (by simpa using Nat.le_of_not_lt hl)]
      rwa [State.lum_outside s h (Nat.le_of_not_lt hl)] at hs
  · rw [State.lum_modLum_ne s n h f hne]; exact hs

@[simp] theorem State.modLum_lums_length (s : State) (n : Nat) (f : Lum → Lum) :
    (s.modLum n f).lums.length = s.lums.length := by
  simp

@[simp] theorem State.group_modLum (s : State) (n : Nat) (f : Lum → Lum) (k : Nat) : (s.modLum n f).group k = s.group k := rfl
@[simp] theorem State.group_setLine (s : State) (v : Line) (k : Nat) : (s.setLine v).group k = s.group k := rfl
@[simp] theorem State.group_setMem (s : State) (v : RecMem) (k : Nat) : (s.setMem v).group k = s.group k := rfl
@[simp] theorem State.group_setSup (s : State) (v : Supervisor) (k : Nat) : (s.setSup v).group k = s.group k := rfl
@[simp] theorem State.group_setView (s : State) (v : List Entry) (k : Nat) : (s.setView v).group k = s.group k := rfl
@[simp] theorem State.group_setPins (s : State) (v : Pins) (k : Nat) : (s.setPins v).group k = s.group k := rfl
@[simp] theorem State.group_setInputs (s : State) (v : Inputs) (k : Nat) : (s.setInputs v).group k = s.group k := rfl
@[simp] theorem State.group_setService (s : State) (v : Service) (k : Nat) : (s.setService v).group k = s.group k := rfl
@[simp] theorem State.group_setNvm (s : State) (v : Memory) (k : Nat) : (s.setNvm v).group k = s.group k := rfl
@[simp] theorem State.group_tookFree (s : State) (k : Nat) (j : Nat) : (s.tookFree k).group j = s.group j := rfl
@[simp] theorem State.group_atMs (s : State) (ms : Nat) (k : Nat) : (s.atMs ms).group k = s.group k := rfl
@[simp] theorem State.group_setBranch (s : State) (b : BranchId) (v : Branch) (k : Nat) :
    (s.setBranch b v).group k = s.group k := by
  cases b <;> rfl
@[simp] theorem State.lum_modGroup (s : State) (g : Nat) (f : Group → Group) (k : Nat) : (s.modGroup g f).lum k = s.lum k := rfl
@[simp] theorem State.lum_setLine (s : State) (v : Line) (k : Nat) : (s.setLine v).lum k = s.lum k := rfl
@[simp] theorem State.lum_setMem (s : State) (v : RecMem) (k : Nat) : (s.setMem v).lum k = s.lum k := rfl
@[simp] theorem State.lum_setSup (s : State) (v : Supervisor) (k : Nat) : (s.setSup v).lum k = s.lum k := rfl
@[simp] theorem State.lum_setView (s : State) (v : List Entry) (k : Nat) : (s.setView v).lum k = s.lum k := rfl
@[simp] theorem State.lum_setPins (s : State) (v : Pins) (k : Nat) : (s.setPins v).lum k = s.lum k := rfl
@[simp] theorem State.lum_setInputs (s : State) (v : Inputs) (k : Nat) : (s.setInputs v).lum k = s.lum k := rfl
@[simp] theorem State.lum_setService (s : State) (v : Service) (k : Nat) : (s.setService v).lum k = s.lum k := rfl
@[simp] theorem State.lum_setNvm (s : State) (v : Memory) (k : Nat) : (s.setNvm v).lum k = s.lum k := rfl
@[simp] theorem State.lum_tookFree (s : State) (k : Nat) (j : Nat) : (s.tookFree k).lum j = s.lum j := rfl
@[simp] theorem State.lum_atMs (s : State) (ms : Nat) (k : Nat) : (s.atMs ms).lum k = s.lum k := rfl
@[simp] theorem State.lum_setBranch (s : State) (b : BranchId) (v : Branch) (k : Nat) :
    (s.setBranch b v).lum k = s.lum k := by
  cases b <;> rfl

/-! ### The lamps' stamps alone tell `relight s t` from `t` -/

@[simp] theorem relight_powered (s t : State) : (relight s t).powered = t.powered := rfl
@[simp] theorem relight_clock (s t : State) : (relight s t).clock = t.clock := rfl
@[simp] theorem relight_calendar (s t : State) : (relight s t).calendar = t.calendar := rfl
@[simp] theorem relight_pins (s t : State) : (relight s t).pins = t.pins := rfl
@[simp] theorem relight_inputs (s t : State) : (relight s t).inputs = t.inputs := rfl
@[simp] theorem relight_sup (s t : State) : (relight s t).sup = t.sup := rfl
@[simp] theorem relight_figures (s t : State) : (relight s t).figures = t.figures := rfl
@[simp] theorem relight_loader (s t : State) : (relight s t).loader = t.loader := rfl
@[simp] theorem relight_groups (s t : State) : (relight s t).groups = t.groups := rfl
@[simp] theorem relight_lums (s t : State) : (relight s t).lums = t.lums := rfl
@[simp] theorem relight_beacon (s t : State) : (relight s t).beacon = t.beacon := rfl
@[simp] theorem relight_overrun (s t : State) : (relight s t).overrun = t.overrun := rfl
@[simp] theorem relight_view (s t : State) : (relight s t).view = t.view := rfl
@[simp] theorem relight_overflow (s t : State) : (relight s t).overflow = t.overflow := rfl
@[simp] theorem relight_loop (s t : State) : (relight s t).loop = t.loop := rfl
@[simp] theorem relight_line (s t : State) : (relight s t).line = t.line := rfl
@[simp] theorem relight_mem (s t : State) : (relight s t).mem = t.mem := rfl
@[simp] theorem relight_events (s t : State) : (relight s t).events = t.events := rfl
@[simp] theorem relight_service (s t : State) : (relight s t).service = t.service := rfl
@[simp] theorem relight_free (s t : State) : (relight s t).free = t.free := rfl
@[simp] theorem relight_pending (s t : State) : (relight s t).pending = t.pending := rfl
@[simp] theorem relight_group (s t : State) (g : Nat) : (relight s t).group g = t.group g := rfl
@[simp] theorem relight_lum (s t : State) (n : Nat) : (relight s t).lum n = t.lum n := rfl
@[simp] theorem relight_branch (s t : State) (b : BranchId) : (relight s t).branch b = t.branch b := by
  cases b <;> rfl

/-- What a step of a powered part answers. -/
theorem live_powered {s : State} (f : State → State) (h : s.powered = true) : live s f = .next (relight s (f s)) := by
  simp [live, done, h]

/-- A step of a part without its supply changes nothing but the lamps' stamps. -/
theorem live_dark {s : State} (f : State → State) (h : s.powered = false) : live s f = .next (relight s s) := by
  simp [live, done, h]

end Sys2Proof.Machine
end

