-- ==== Sys2Proof/Laws/Frames.lean ====
section
/-! SUPPORT. For each shared operation, the parts of the state it can touch: one lemma says once what it leaves alone. -/

namespace Sys2Proof.Machine

/-! ### Composition -/

theorem Keeps.refl (a : List Part) (s : State) : Keeps a s s := fun p _ => by cases p <;> rfl

theorem Keeps.trans {a : List Part} {s t u : State} (h : Keeps a s t) (k : Keeps a t u) : Keeps a s u := fun p hp => by
  have h1 := h p hp
  have h2 := k p hp
  cases p <;> exact Eq.trans h2 h1

theorem Keeps.mono {a b : List Part} {s t : State} (h : Keeps a s t) (sub : ∀ p ∈ a, p ∈ b) : Keeps b s t := fun p hp =>
  h p (fun hm => hp (sub p hm))

theorem Keeps.foldl {α : Type} {a : List Part} {f : State → α → State} (h : ∀ s x, Keeps a s (f s x)) (l : List α) (s : State) :
    Keeps a s (l.foldl f s) := by
  induction l generalizing s with
  | nil => exact Keeps.refl a s
  | cons x xs ih => exact (h s x).trans (ih (f s x))

/-- A step's lamps stand apart from every part. -/
theorem Keeps.relight {a : List Part} {s t : State} (h : Keeps a s t) : Keeps a s (relight s t) := fun p hp => by
  have := h p hp
  cases p <;> exact this

/-! ### Named updates -/

theorem modGroup_keeps (g : Nat) (f : Group → Group) (s : State) : Keeps [.groups] s (s.modGroup g f) := fun p h => by
  cases p <;> first | rfl | simp at h

theorem modLum_keeps (n : Nat) (f : Lum → Lum) (s : State) : Keeps [.lums] s (s.modLum n f) := fun p h => by
  cases p <;> first | rfl | simp at h

theorem setLine_keeps (v : Line) (s : State) : Keeps [.line] s (s.setLine v) := fun p h => by
  cases p <;> first | rfl | simp at h

theorem setMem_keeps (v : RecMem) (s : State) : Keeps [.mem] s (s.setMem v) := fun p h => by
  cases p <;> first | rfl | simp at h

theorem setNvm_keeps (v : Memory) (s : State) : Keeps [.mem] s (s.setNvm v) := fun p h => by
  cases p <;> first | rfl | simp at h

theorem setSup_keeps (v : Supervisor) (s : State) : Keeps [.sup] s (s.setSup v) := fun p h => by
  cases p <;> first | rfl | simp at h

theorem setView_keeps (v : List Entry) (s : State) : Keeps [.view] s (s.setView v) := fun p h => by
  cases p <;> first | rfl | simp at h

theorem setInputs_keeps (v : Inputs) (s : State) : Keeps [.inputs] s (s.setInputs v) := fun p h => by
  cases p <;> first | rfl | simp at h

theorem setPins_keeps (v : Pins) (s : State) : Keeps [.pins] s (s.setPins v) := fun p h => by
  cases p <;> first | rfl | simp at h

theorem setService_keeps (v : Service) (s : State) : Keeps [.service] s (s.setService v) := fun p h => by
  cases p <;> first | rfl | simp at h

theorem tookFree_keeps (k : Nat) (s : State) : Keeps [.free] s (s.tookFree k) := fun p h => by
  cases p <;> first | rfl | simp at h

theorem atMs_keeps (ms : Nat) (s : State) : Keeps [.clock] s (s.atMs ms) := fun p h => by
  cases p <;> first | rfl | simp at h

theorem setBranch_keeps (b : BranchId) (v : Branch) (s : State) : Keeps [.loop] s (s.setBranch b v) := by
  intro p h; cases b <;> cases p <;> first | rfl | simp at h

/-! ### Events -/

theorem raise_keeps (e : Event) (d : Detail) (s : State) : Keeps [.events] s (raise e d s) := fun p h => by
  cases p <;> first | rfl | simp at h

theorem clearEvents_keeps (k : Nat) (s : State) : Keeps [.events] s (clearEvents k s) := fun p h => by
  cases p <;> first | rfl | simp at h

theorem handOverEvents_keeps (f : Figures) (s : State) : Keeps [.events] s (handOverEvents f s) := fun p h => by
  cases p <;> first | rfl | simp at h

/-! ### The queue -/

theorem noteGone_keeps (f : TxFrame) (s : State) : Keeps [.service] s (noteGone f s) := by
  unfold noteGone
  split
  · split
    · intro p h; cases p <;> first | rfl | simp at h
    · exact Keeps.refl _ s
  · exact Keeps.refl _ s

theorem displaced_keeps (f : TxFrame) (s : State) : Keeps [.events, .service] s (displaced f s) := by
  unfold displaced
  split
  · exact (raise_keeps _ _ s).mono (by decide)
  · exact (noteGone_keeps _ s).mono (by decide)

theorem offerFull_keeps (f : TxFrame) (s : State) : Keeps [.line, .events, .service] s (offerFull f s) := by
  unfold offerFull
  split
  · exact Keeps.refl _ s
  · split
    · exact ((setLine_keeps _ s).mono (by decide)).trans ((displaced_keeps _ _).mono (by decide))
    · split
      · split <;> exact (setLine_keeps _ s).mono (by decide)
      · exact Keeps.refl _ s

theorem offer_keeps (f : TxFrame) (s : State) : Keeps [.line, .events, .service] s (offer f s) := by
  unfold offer
  split
  · exact (setLine_keeps _ s).mono (by decide)
  · split
    · exact (setLine_keeps _ s).mono (by decide)
    · split
      · exact offerFull_keeps f s
      · exact (setLine_keeps _ s).mono (by decide)

theorem offerBeacon_keeps (s : State) : Keeps [.line, .events, .service] s (offerBeacon s) := by
  unfold offerBeacon
  split
  · exact Keeps.refl _ s
  · exact offer_keeps _ s

theorem removeWaiting_keeps (f : TxFrame → Bool) (s : State) : Keeps [.line] s (removeWaiting f s) := by
  exact setLine_keeps _ s

theorem dropCurrent_keeps (s : State) : Keeps [.line, .service] s (dropCurrent s) := by
  unfold dropCurrent
  split
  · exact ((setLine_keeps _ s).mono (by decide)).trans ((noteGone_keeps _ _).mono (by decide))
  · exact Keeps.refl _ s

theorem removeProposal_keeps (g : Nat) (s : State) : Keeps [.line, .service] s (removeProposal g s) := by
  unfold removeProposal
  split
  · split
    · exact (dropCurrent_keeps s).trans ((removeWaiting_keeps _ _).mono (by decide))
    · exact (removeWaiting_keeps _ s).mono (by decide)
  · exact (removeWaiting_keeps _ s).mono (by decide)

theorem emptyQueue_keeps (s : State) : Keeps [.line, .service] s (emptyQueue s) := by
  exact ((setLine_keeps _ s).mono (by decide)).trans
    (Keeps.foldl (fun s f => (noteGone_keeps f s).mono (by decide)) _ _)

theorem drawSlot_keeps (s : State) : Keeps [.line] s (drawSlot s) := by
  unfold drawSlot
  split
  · exact setLine_keeps _ s
  · exact Keeps.refl _ s

theorem drawIfNone_keeps (s : State) : Keeps [.line] s (drawIfNone s) := by
  unfold drawIfNone
  split
  · exact Keeps.refl _ s
  · exact drawSlot_keeps s

theorem drawnWhileIdle_keeps (idle : Bool) (s : State) : Keeps [.line] s (drawnWhileIdle idle s) := by
  unfold drawnWhileIdle
  split
  · exact drawIfNone_keeps s
  · exact Keeps.refl _ s

theorem endSlotWait_keeps (s : State) : Keeps [.line] s (endSlotWait s) := by
  exact setLine_keeps _ s

/-! ### Own claims -/

theorem queueClaim_keeps (g : Nat) (s : State) : Keeps [.line, .events, .service] s (queueClaim g s) := by
  unfold queueClaim
  split
  · exact offer_keeps _ s
  · exact Keeps.refl _ s

theorem startRefresh_keeps (g : Nat) (s : State) : Keeps [.groups] s (startRefresh g s) := by
  exact modGroup_keeps _ _ s

theorem evalOverrun_keeps (s : State) : Keeps [.overrun, .events] s (evalOverrun s) := by
  unfold evalOverrun
  split
  · split
    · split
      · exact Keeps.refl _ s
      · intro p h; cases p <;> first | rfl | simp at h
    · intro p h; cases p <;> first | rfl | simp at h
  · intro p h; cases p <;> first | rfl | simp at h

theorem yieldGroup_keeps (g : Nat) (s : State) : Keeps [.groups] s (s.yieldGroup g) := by
  exact modGroup_keeps _ _ s

theorem withdrawQuiet_keeps (g : Nat) (r : Option Reason) (s : State) : Keeps [.groups, .line, .events, .service] s (withdrawQuiet g r s) := by
  unfold withdrawQuiet
  split
  · split
    · exact (((removeProposal_keeps g s).mono (by decide)).trans ((offer_keeps _ _).mono (by decide))).trans
        ((yieldGroup_keeps g _).mono (by decide))
    · exact ((removeProposal_keeps g s).mono (by decide)).trans ((yieldGroup_keeps g _).mono (by decide))
  · exact Keeps.refl _ s

theorem withdraw_keeps (g : Nat) (r : Option Reason) (s : State) : Keeps [.groups, .line, .events, .service, .overrun] s (withdraw g r s) := by
  unfold withdraw
  split
  · exact ((withdrawQuiet_keeps g r s).mono (by decide)).trans ((evalOverrun_keeps _).mono (by decide))
  · exact Keeps.refl _ s

theorem withdrawAll_keeps (r : Option Reason) (s : State) : Keeps [.groups, .line, .events, .service, .overrun] s (withdrawAll r s) := by
  exact Keeps.foldl (fun s g => withdraw_keeps g r s) _ s

theorem releaseGroup_keeps (g : Nat) (s : State) : Keeps [.groups, .line, .events, .service, .overrun] s (releaseGroup g s) := by
  exact ((((removeWaiting_keeps _ s).mono (by decide)).trans ((offer_keeps _ _).mono (by decide))).trans
    ((modGroup_keeps g _ _).mono (by decide))).trans ((evalOverrun_keeps _).mono (by decide))

/-! ### The test engine -/

theorem offerLine_keeps (l : HistLine) (s : State) : Keeps [.mem, .events] s (offerLine l s) := by
  unfold offerLine
  split
  · exact (setMem_keeps _ s).mono (by decide)
  · exact (raise_keeps _ _ s).mono (by decide)

theorem writeMember_keeps (g minute n : Nat) (s : State) : Keeps [.lums, .mem, .events] s (writeMember g minute s n) := by
  unfold writeMember
  split
  · exact ((modLum_keeps n _ s).mono (by decide)).trans ((offerLine_keeps _ _).mono (by decide))
  · exact Keeps.refl _ s

theorem clearRequest_keeps (n : Nat) (s : State) : Keeps [.lums] s (clearRequest s n) := by
  exact modLum_keeps _ _ s

theorem claimRecovering_keeps (g : Nat) (s : State) : Keeps [.groups, .line, .events, .service] s (claimRecovering g s) := by
  exact (((modGroup_keeps g _ s).mono (by decide)).trans ((queueClaim_keeps g _).mono (by decide))).trans
    ((startRefresh_keeps g _).mono (by decide))

theorem finishTest_keeps (g : Nat) (r : GResult) (k : Nat) (e : Event) (s : State) : Keeps [.groups, .lums, .mem, .line, .events, .service] s (finishTest g r k e s) := by
  unfold finishTest
  refine Keeps.trans ?_ ((raise_keeps _ _ _).mono (by decide))
  refine Keeps.trans ?_ ((claimRecovering_keeps g _).mono (by decide))
  refine Keeps.trans ?_ ((modGroup_keeps g _ _).mono (by decide))
  refine Keeps.trans ?_ (Keeps.foldl (fun s n => (writeMember_keeps g _ n s).mono (by decide)) _ _)
  exact Keeps.foldl (fun s n => (clearRequest_keeps n s).mono (by decide)) _ _

theorem checkConclusion_keeps (g : Nat) (s : State) : Keeps [.groups, .lums, .mem, .line, .events, .service] s (checkConclusion g s) := by
  unfold checkConclusion
  simp only
  split
  · exact finishTest_keeps g _ _ _ s
  · exact Keeps.refl _ s

theorem captureFirst_keeps (g n : Nat) (s : State) : Keeps [.groups] s (captureFirst g n s) := by
  exact modGroup_keeps _ _ s

theorem failMember_keeps (g n : Nat) (st : TestState) (k : Nat) (s : State) : Keeps [.groups, .lums] s (failMember g n st k s) := by
  exact ((modLum_keeps n _ s).mono (by decide)).trans ((captureFirst_keeps g n _).mono (by decide))

theorem roundMember_keeps (g n : Nat) (s : State) : Keeps [.groups, .lums] s (roundMember g s n) := by
  unfold roundMember
  simp only
  split
  · split
    · split <;> exact (modLum_keeps n _ s).mono (by decide)
    · split
      · exact Keeps.refl _ s
      · exact failMember_keeps g n _ _ s
  · split
    · exact Keeps.refl _ s
    · exact (modLum_keeps n _ s).mono (by decide)
  · exact Keeps.refl _ s

theorem pollMembers_keeps (g : Nat) (s : State) : Keeps [.groups, .lums, .mem, .line, .events, .service] s (pollMembers g s) := by
  exact (Keeps.foldl (fun s n => (roundMember_keeps g n s).mono (by decide)) _ s).trans (checkConclusion_keeps g _)

theorem enterMember_keeps (n : Nat) (s : State) : Keeps [.lums] s (enterMember s n) := by
  unfold enterMember
  split <;> exact modLum_keeps n _ s

theorem startTest_keeps (g : Nat) (s : State) : Keeps [.groups, .lums, .mem, .line, .events, .service] s (startTest g s) := by
  unfold startTest
  simp only
  refine Keeps.trans ?_ (pollMembers_keeps g _)
  refine Keeps.trans ?_ (Keeps.foldl (fun s n => (enterMember_keeps n s).mono (by decide)) _ _)
  exact (modGroup_keeps g _ s).mono (by decide)

theorem enterTesting_keeps (g : Nat) (s : State) : Keeps [.groups, .lums, .mem, .line, .events, .service] s (enterTesting g s) := by
  have h : Keeps [.groups, .lums, .mem, .line, .events, .service] s _ :=
    ((modGroup_keeps g (fun gr : Group =>
      { gr.enter .testing with
        forced := false, claim := gr.claim.map (fun c => { c with phase := .testing, hold := none }) }) s).mono
      (by decide)).trans (startTest_keeps g _)
  unfold enterTesting
  simp only
  split
  · exact (h.trans ((queueClaim_keeps g _).mono (by decide))).trans ((startRefresh_keeps g _).mono (by decide))
  · exact h

theorem abortMember_keeps (owed : Bool) (n : Nat) (s : State) : Keeps [.lums] s (abortMember owed s n) := by
  unfold abortMember
  split
  · exact modLum_keeps n _ s
  · exact modLum_keeps n _ s
  · exact Keeps.refl _ s

theorem endTest_keeps (g : Nat) (r : GResult) (owed : Bool) (s : State) : Keeps [.groups, .lums, .mem, .line, .events, .service] s (endTest g r owed s) := by
  unfold endTest
  simp only
  split
  · exact (Keeps.foldl (fun s n => (abortMember_keeps owed n s).mono (by decide)) _ s).trans (finishTest_keeps g _ _ _ _)
  · exact Keeps.refl _ s

theorem endAllTests_keeps (r : GResult) (owed : Bool) (s : State) : Keeps [.groups, .lums, .mem, .line, .events, .service] s (endAllTests r owed s) := by
  exact Keeps.foldl (fun s g => endTest_keeps g r owed s) _ s

theorem keepGood_keeps (n : Nat) (r : LoopReply) (s : State) : Keeps [.lums] s (keepGood n r s) := by
  exact modLum_keeps _ _ s

theorem startMissed_keeps (g n : Nat) (s : State) : Keeps [.groups, .lums] s (startMissed g n s) := by
  unfold startMissed
  split
  · exact failMember_keeps g n _ _ s
  · exact Keeps.refl _ s

theorem startOutcome_keeps (g n : Nat) (r : Option LoopReply) (s : State) : Keeps [.groups, .lums, .mem, .line, .events, .service] s (startOutcome g n r s) := by
  unfold startOutcome
  refine Keeps.trans ?_ (checkConclusion_keeps g _)
  split
  · split
    · exact ((keepGood_keeps n _ s).trans (modLum_keeps n _ _)).mono (by decide)
    · exact ((keepGood_keeps n _ s).mono (by decide)).trans ((startMissed_keeps g n _).mono (by decide))
  · exact (startMissed_keeps g n s).mono (by decide)

theorem probeOutcome_keeps (g n : Nat) (r : Option LoopReply) (s : State) : Keeps [.groups, .lums, .mem, .line, .events, .service] s (probeOutcome g n r s) := by
  unfold probeOutcome
  split
  · split
    · exact ((keepGood_keeps n _ s).mono (by decide)).trans (checkConclusion_keeps g _)
    · exact (((keepGood_keeps n _ s).mono (by decide)).trans ((failMember_keeps g n _ _ _).mono (by decide))).trans
        (checkConclusion_keeps g _)
  · split
    · exact ((failMember_keeps g n _ _ s).mono (by decide)).trans (checkConclusion_keeps g _)
    · exact Keeps.refl _ s

theorem testOutcome_keeps (n : Nat) (c : LoopCommand) (r : Option LoopReply) (s : State) : Keeps [.groups, .lums, .mem, .line, .events, .service] s (testOutcome n c r s) := by
  unfold testOutcome
  split
  · exact (modLum_keeps n _ s).mono (by decide)
  · exact startOutcome_keeps _ n r s
  · exact probeOutcome_keeps _ n r s
  · exact Keeps.refl _ s

theorem passMember_keeps (g n : Nat) (s : State) : Keeps [.groups, .lums, .mem, .line, .events, .service] s (passMember g n s) := by
  exact ((modLum_keeps n _ s).mono (by decide)).trans (checkConclusion_keeps g _)

theorem restoreTest_keeps (r : Nat × Restored) (s : State) : Keeps [.lums, .events] s (restoreTest s r) := by
  unfold restoreTest
  split
  · exact (Keeps.foldl (fun s n => (modLum_keeps n _ s).mono (by decide)) _ s).trans ((raise_keeps _ _ _).mono (by decide))
  · exact Keeps.refl _ s
  · exact Keeps.refl _ s

/-! ### Judgement and the peer view -/

theorem judgeGroup_keeps (j : Judged) (g : Nat) (s : State) : Keeps [.groups, .lums, .mem, .line, .events, .service] s (judgeGroup j s g) := by
  unfold judgeGroup
  split
  · unfold judgeProposed
    split
    · exact (withdrawQuiet_keeps g _ s).mono (by decide)
    · exact Keeps.refl _ s
  · unfold judgeTesting
    split
    · exact Keeps.refl _ s
    · refine Keeps.trans ?_ ((raise_keeps _ _ _).mono (by decide))
      split
      · exact endTest_keeps g _ _ s
      · exact Keeps.refl _ s
  · unfold judgeRecovering
    split
    · exact Keeps.refl _ s
    · exact (raise_keeps _ _ s).mono (by decide)
  · exact Keeps.refl _ s

theorem contestGroup_keeps (g : Nat) (s : State) : Keeps [.groups, .line, .events, .service] s (contestGroup s g) := by
  unfold contestGroup
  split
  · exact withdrawQuiet_keeps g _ s
  · exact Keeps.refl _ s

theorem loadSteps_keeps (s : State) : Keeps [.groups, .line, .events, .service, .overrun] s (loadSteps s) := by
  exact ((Keeps.foldl (fun s g => contestGroup_keeps g s) _ s).mono (by decide)).trans ((evalOverrun_keeps _).mono (by decide))

theorem judge_keeps (j : Judged) (s : State) : Keeps [.groups, .lums, .mem, .line, .events, .service, .overrun] s (judge j s) := by
  exact ((Keeps.foldl (fun s g => judgeGroup_keeps j g s) _ s).mono (by decide)).trans ((loadSteps_keeps _).mono (by decide))

theorem startOverflow_keeps (s : State) : Keeps [.overflow] s (startOverflow s) := fun p h => by
  cases p <;> first | rfl | simp at h

theorem viewFull_keeps (g : Nat) (s : State) : Keeps [.overflow, .events] s (viewFull g s) := fun p h => by
  cases p <;> first | rfl | simp at h

theorem takeClaim_keeps (station : Nat) (c : ClaimFrame) (s : State) : Keeps [.groups, .lums, .mem, .line, .events, .service, .overrun, .view, .overflow] s (takeClaim station c s) := by
  unfold takeClaim
  simp only
  split
  · exact ((setView_keeps _ s).mono (by decide)).trans ((judge_keeps _ _).mono (by decide))
  · split
    · exact ((setView_keeps _ s).mono (by decide)).trans ((judge_keeps _ _).mono (by decide))
    · exact ((viewFull_keeps _ s).mono (by decide)).trans ((judge_keeps _ _).mono (by decide))

theorem removeEntry_keeps (station g : Nat) (s : State) : Keeps [.groups, .line, .events, .service, .overrun, .view] s (removeEntry station g s) := by
  unfold removeEntry
  split
  · exact ((setView_keeps _ s).mono (by decide)).trans ((loadSteps_keeps _).mono (by decide))
  · exact Keeps.refl _ s

theorem addPlaceholder_keeps (station : Nat) (p : Nat × Phase) (s : State) : Keeps [.view, .overflow, .events] s (addPlaceholder station s p) := by
  unfold addPlaceholder
  split
  · exact Keeps.refl _ s
  · split
    · exact (setView_keeps _ s).mono (by decide)
    · exact (viewFull_keeps _ s).mono (by decide)

theorem takeBeacon_keeps (station : Nat) (b : BeaconFrame) (s : State) : Keeps [.groups, .lums, .mem, .line, .events, .service, .overrun, .view, .overflow] s (takeBeacon station b s) := by
  unfold takeBeacon
  simp only
  split
  · refine Keeps.trans ?_ (Keeps.foldl (fun s j => (judge_keeps j s).mono (by decide)) _ _)
    refine Keeps.trans ?_ (Keeps.foldl (fun s _ => (loadSteps_keeps s).mono (by decide)) _ _)
    refine Keeps.trans ?_ ((setView_keeps _ _).mono (by decide))
    refine Keeps.trans ?_ (Keeps.foldl (fun s p => (addPlaceholder_keeps station p s).mono (by decide)) _ _)
    exact (setView_keeps _ s).mono (by decide)
  · refine Keeps.trans ?_ ((loadSteps_keeps _).mono (by decide))
    refine Keeps.trans ?_ (Keeps.foldl (fun s j => (judge_keeps j s).mono (by decide)) _ _)
    refine Keeps.trans ?_ (Keeps.foldl (fun s _ => (loadSteps_keeps s).mono (by decide)) _ _)
    refine Keeps.trans ?_ ((setView_keeps _ _).mono (by decide))
    refine Keeps.trans ?_ (Keeps.foldl (fun s p => (addPlaceholder_keeps station p s).mono (by decide)) _ _)
    exact (setView_keeps _ s).mono (by decide)

theorem removeEnded_keeps (s : State) : Keeps [.groups, .line, .events, .service, .overrun, .view] s (removeEnded s) := by
  exact Keeps.foldl (fun s (e : Entry) => removeEntry_keeps e.station e.group s) _ s

/-! ### The supervisor -/

theorem enterListening_keeps (s : State) : Keeps [.groups, .line, .events, .service, .overrun, .sup] s (enterListening s) := by
  exact ((setSup_keeps _ s).mono (by decide)).trans ((withdrawAll_keeps _ _).mono (by decide))

theorem startSweep_keeps (s : State) : Keeps [.loop] s (startSweep s) := fun p h => by
  cases p <;> first | rfl | simp at h

theorem announceRestored_keeps (s : State) : Keeps [.groups, .line, .events, .service] s (announceRestored s) := by
  exact Keeps.foldl (fun s g => ((queueClaim_keeps g s).mono (by decide)).trans ((startRefresh_keeps g _).mono (by decide))) _ s

theorem setBeacon_keeps (k : Option Nat) (s : State) : Keeps [.beacon] s ({ s with beacon := k }) := fun p h => by
  cases p <;> first | rfl | simp at h

theorem firstListening_keeps (s : State) : Keeps [.groups, .line, .events, .service, .overrun, .sup, .beacon, .loop] s (firstListening s) := by
  unfold firstListening
  refine Keeps.trans ?_ ((startSweep_keeps _).mono (by decide))
  refine Keeps.trans ?_ ((announceRestored_keeps _).mono (by decide))
  refine Keeps.trans ?_ ((offerBeacon_keeps _).mono (by decide))
  exact ((enterListening_keeps s).mono (by decide)).trans ((setBeacon_keeps _ (enterListening s)).mono (by decide))

theorem enterCoordinating_keeps (s : State) : Keeps [.sup] s (enterCoordinating s) := by
  exact setSup_keeps _ s

theorem enterStandalone_keeps (s : State) : Keeps [.sup, .events] s (enterStandalone s) := by
  exact ((setSup_keeps _ s).mono (by decide)).trans ((raise_keeps _ _ _).mono (by decide))

theorem enterIsolatedSilence_keeps (s : State) : Keeps [.groups, .line, .events, .service, .overrun, .sup] s (enterIsolatedSilence s) := by
  unfold enterIsolatedSilence
  simp only
  split
  · refine Keeps.trans ?_ ((enterStandalone_keeps _).mono (by decide))
    refine Keeps.trans ?_ ((withdrawAll_keeps _ _).mono (by decide))
    exact ((setSup_keeps _ s).mono (by decide)).trans ((raise_keeps _ _ _).mono (by decide))
  · refine Keeps.trans ?_ ((withdrawAll_keeps _ _).mono (by decide))
    exact ((setSup_keeps _ s).mono (by decide)).trans ((raise_keeps _ _ _).mono (by decide))

theorem enterIsolatedDriver_keeps (s : State) : Keeps [.sup, .events] s (enterIsolatedDriver s) := by
  unfold enterIsolatedDriver
  split
  · exact ((setSup_keeps _ s).mono (by decide)).trans ((raise_keeps _ _ _).mono (by decide))
  · exact Keeps.refl _ s

theorem stationFrame_keeps (s : State) : Keeps [.groups, .line, .events, .service, .overrun, .sup] s (stationFrame s) := by
  unfold stationFrame
  split
  · simp only
    split
    · exact ((setSup_keeps _ s).mono (by decide)).trans (enterListening_keeps _)
    · exact (setSup_keeps _ s).mono (by decide)
  · exact Keeps.refl _ s

theorem countClash_keeps (s : State) : Keeps [.line] s (countClash s) := by
  exact setLine_keeps _ s

theorem countCrcError_keeps (s : State) : Keeps [.line] s (countCrcError s) := by
  exact setLine_keeps _ s

theorem receiverIdle_keeps (s : State) : Keeps [.line] s (receiverIdle s) := by
  exact setLine_keeps _ s

theorem deliver_keeps {a : List Part} (src dst : Byte) {f : State → State} (hf : ∀ t, Keeps a t (f t))
    (sub : ∀ p ∈ [Part.groups, .line, .events, .service, .overrun, .sup], p ∈ a) (s : State) : Keeps a s (deliver src dst f s) := by
  unfold deliver
  split
  · split
    · refine Keeps.trans ?_ (hf _)
      split
      · exact (((receiverIdle_keeps s).mono (by decide)).trans (stationFrame_keeps _)).mono sub
      · exact (receiverIdle_keeps s).mono (fun p hp => sub p (by simp_all))
    · exact (receiverIdle_keeps s).mono (fun p hp => sub p (by simp_all))
  · exact Keeps.refl _ s

theorem deliverProtocol_keeps {a : List Part} (src dst : Byte) {f : State → State} (hf : ∀ t, Keeps a t (f t))
    (sub : ∀ p ∈ [Part.groups, .line, .events, .service, .overrun, .sup], p ∈ a) (s : State) : Keeps a s (deliverProtocol src dst f s) := by
  unfold deliverProtocol
  split
  · exact ((receiverIdle_keeps s).trans (countClash_keeps _)).mono (fun p hp => sub p (by simp_all))
  · refine deliver_keeps src dst (fun t => ?_) sub s
    split
    · exact hf t
    · exact Keeps.refl _ t

/-! ### The record memory -/

theorem abandonMemory_keeps (s : State) : Keeps [.mem, .free] s (s.abandonMemory) := by
  unfold State.abandonMemory
  split
  · exact ((setNvm_keeps _ s).mono (by decide)).trans ((tookFree_keeps _ _).mono (by decide))
  · exact Keeps.refl _ s

theorem clean_keeps (t : MemTxn) (s : State) : Keeps [.groups, .lums] s (clean t s) := by
  unfold clean
  split
  · exact (modGroup_keeps _ _ s).mono (by decide)
  · exact (modLum_keeps _ _ s).mono (by decide)
  · exact Keeps.refl _ s

theorem beginTxn_keeps (r : Requester) (t : MemTxn) (s : State) : Keeps [.groups, .lums, .free, .mem] s (beginTxn r t s) := by
  exact (((clean_keeps t s).mono (by decide)).trans ((tookFree_keeps _ _).mono (by decide))).trans
    ((setMem_keeps _ _).mono (by decide))

theorem grantMemory_keeps (s : State) : Keeps [.groups, .lums, .free, .mem] s (grantMemory s) := by
  unfold grantMemory
  simp only
  split
  · exact beginTxn_keeps _ _ s
  · exact beginTxn_keeps _ _ s
  · exact beginTxn_keeps _ _ s
  · exact Keeps.refl _ s

theorem lineWritten_keeps (l : HistLine) (k : Nat) (bytes : List Byte) (s : State) : Keeps [.mem, .lums] s (lineWritten l k bytes s) := by
  exact ((setMem_keeps _ s).mono (by decide)).trans ((modLum_keeps _ _ _).mono (by decide))

theorem recordWritten_keeps (k : Nat) (bytes : List Byte) (s : State) : Keeps [.mem] s (recordWritten k bytes s) := by
  exact setMem_keeps _ s

theorem filled_keeps (n : Nat) (arrived : Bool) (m : Memory) (page : List Byte) (s : State) : Keeps [.mem] s (filled n arrived m page s) := by
  unfold filled
  split <;> exact setMem_keeps _ s

/-! ### The loop -/

theorem setLums_keeps (x : List Lum) (s : State) : Keeps [.lums] s ({ s with lums := x }) := fun p h => by
  cases p <;> first | rfl | simp at h

theorem setLoop_keeps (x : Loop) (s : State) : Keeps [.loop] s ({ s with loop := x }) := fun p h => by
  cases p <;> first | rfl | simp at h

theorem dropStarts_keeps (b : BranchId) (s : State) : Keeps [.lums] s (dropStarts b s) := by
  unfold dropStarts
  split
  · exact setLums_keeps _ s
  · exact Keeps.refl _ s

theorem beginLoop_keeps (b : BranchId) (n : Nat) (c : LoopCommand) (x : LoopSource) (arg : List Byte) (s : State) : Keeps [.loop] s (beginLoop b n c x arg s) := by
  exact setBranch_keeps b _ s

theorem presentRequest_keeps (b : BranchId) (g n : Nat) (c : LoopCommand) (arg : List Byte) (s : State) : Keeps [.lums, .loop] s (presentRequest b g n c arg s) := by
  exact (((modLum_keeps n _ s).mono (by decide)).trans ((setBranch_keeps b _ _).mono (by decide))).trans
    ((beginLoop_keeps b n c .test arg _).mono (by decide))

theorem grantSweep_keeps (b : BranchId) (s : State) : Keeps [.loop] s (grantSweep b s) := by
  unfold grantSweep
  split
  · split
    · exact Keeps.refl _ s
    · split
      · exact (setBranch_keeps b _ s).trans (beginLoop_keeps b _ _ _ _ _)
      · exact setBranch_keeps b _ s
  · exact Keeps.refl _ s

theorem grantTest_keeps (b : BranchId) (s t : State) (h : grantTest b s = some t) : Keeps [.lums, .loop] s t := by
  unfold grantTest at h
  split at h
  · cases h; exact (beginLoop_keeps b _ _ _ _ s).mono (by decide)
  · split at h
    · split at h
      · cases h; exact presentRequest_keeps b _ _ _ _ s
      · cases h; exact presentRequest_keeps b _ _ _ _ s
      · cases h
    · cases h

theorem grantPassThrough_keeps (b : BranchId) (s t : State) (h : grantPassThrough b s = some t) : Keeps [.loop] s t := by
  unfold grantPassThrough at h
  split at h
  · split at h
    · cases h
      refine Keeps.trans ?_ (beginLoop_keeps b _ _ _ _ _)
      intro p hp; cases p <;> first | rfl | simp at hp
    · cases h
  · cases h

theorem grantBranch_keeps (b : BranchId) (s : State) : Keeps [.lums, .loop] s (grantBranch b s) := by
  unfold grantBranch
  simp only
  refine Keeps.trans ((dropStarts_keeps b s).mono (by decide)) ?_
  split
  · rename_i u h; exact grantTest_keeps b _ u h
  · split
    · rename_i u h; exact (grantPassThrough_keeps b _ u h).mono (by decide)
    · exact (grantSweep_keeps b _).mono (by decide)

theorem updatePresence_keeps (n : Nat) (r : Option LoopReply) (s : State) : Keeps [.lums, .events] s (updatePresence n r s) := by
  unfold updatePresence
  simp only
  split
  · split
    · exact ((modLum_keeps n _ s).mono (by decide)).trans ((raise_keeps _ _ _).mono (by decide))
    · exact (modLum_keeps n _ s).mono (by decide)
  · split
    · exact Keeps.refl _ s
    · split
      · exact (modLum_keeps n _ s).mono (by decide)
      · exact ((modLum_keeps n _ s).mono (by decide)).trans ((raise_keeps _ _ _).mono (by decide))

theorem updateWindow_keeps (b : BranchId) (n : Nat) (good : Bool) (s : State) : Keeps [.loop, .events] s (updateWindow b n good s) := by
  unfold updateWindow
  simp only
  split
  · split
    · exact ((setBranch_keeps b _ s).mono (by decide)).trans ((raise_keeps _ _ _).mono (by decide))
    · exact (setBranch_keeps b _ s).mono (by decide)
  · split
    · exact ((setBranch_keeps b _ s).mono (by decide)).trans ((raise_keeps _ _ _).mono (by decide))
    · exact (setBranch_keeps b _ s).mono (by decide)

theorem sweepReport_keeps (n : Nat) (r : Option LoopReply) (s : State) : Keeps [.lums, .events] s (sweepReport n r s) := by
  unfold sweepReport
  split
  · split
    · exact Keeps.refl _ s
    · simp only
      split
      · exact (modLum_keeps n _ s).mono (by decide)
      · exact ((modLum_keeps n _ s).mono (by decide)).trans ((raise_keeps _ _ _).mono (by decide))
  · exact Keeps.refl _ s

theorem slotReport_keeps (r : Option LoopReply) (s : State) : Keeps [.line, .events, .service, .loop] s (slotReport r s) := by
  unfold slotReport
  split
  · rename_i x y hy
    exact ((offer_keeps (.reply (probeReply y r)) s).mono (by decide)).trans ((setLoop_keeps _ _).mono (by decide))
  · exact Keeps.refl _ s

theorem completeLoop_keeps (b : BranchId) (t : LoopTxn) (r : Option LoopReply) (s : State) : Keeps [.groups, .lums, .mem, .line, .events, .service, .loop] s (completeLoop b t r s) := by
  unfold completeLoop
  simp only
  split
  · refine Keeps.trans ?_ ((testOutcome_keeps _ _ _ _).mono (by decide))
    refine Keeps.trans ?_ ((updateWindow_keeps b _ _ _).mono (by decide))
    exact ((setBranch_keeps b _ s).mono (by decide)).trans ((updatePresence_keeps _ _ _).mono (by decide))
  · refine Keeps.trans ?_ ((slotReport_keeps _ _).mono (by decide))
    refine Keeps.trans ?_ ((updateWindow_keeps b _ _ _).mono (by decide))
    exact ((setBranch_keeps b _ s).mono (by decide)).trans ((updatePresence_keeps _ _ _).mono (by decide))
  · refine Keeps.trans ?_ ((sweepReport_keeps _ _ _).mono (by decide))
    refine Keeps.trans ?_ ((updateWindow_keeps b _ _ _).mono (by decide))
    exact ((setBranch_keeps b _ s).mono (by decide)).trans ((updatePresence_keeps _ _ _).mono (by decide))

/-! ### The pass, the inputs, the driver monitor -/

theorem setGroups_keeps (x : List Group) (s : State) : Keeps [.groups] s ({ s with groups := x }) := fun p h => by
  cases p <;> first | rfl | simp at h

theorem overdueGroup_keeps (g : Nat) (s : State) : Keeps [.groups, .events] s (overdueGroup s g) := by
  unfold overdueGroup
  simp only
  split
  · split
    · exact ((modGroup_keeps g _ s).mono (by decide)).trans ((raise_keeps _ _ _).mono (by decide))
    · exact (modGroup_keeps g _ s).mono (by decide)
  · exact Keeps.refl _ s

theorem rankGroups_keeps (s : State) : Keeps [.groups, .events] s (rankGroups s) := by
  exact (((setGroups_keeps _ s).mono (by decide)).trans (Keeps.foldl (fun s g => overdueGroup_keeps g s) _ _)).trans
    ((setGroups_keeps _ _).mono (by decide))

theorem propose_keeps (g : Nat) (s : State) : Keeps [.groups, .line, .events, .service, .overrun] s (propose g s) := by
  exact (((modGroup_keeps g _ s).mono (by decide)).trans ((queueClaim_keeps g _).mono (by decide))).trans
    ((evalOverrun_keeps _).mono (by decide))

theorem schedulePass_keeps (s : State) : Keeps [.groups, .line, .events, .service, .overrun] s (schedulePass s) := by
  unfold schedulePass
  simp only
  split
  · refine Keeps.trans ?_ (propose_keeps _ _)
    exact ((rankGroups_keeps s).mono (by decide)).trans ((setGroups_keeps _ _).mono (by decide))
  · exact ((rankGroups_keeps s).mono (by decide)).trans ((setGroups_keeps _ _).mono (by decide))

theorem mainsOff_keeps (s : State) : Keeps [.groups, .lums, .mem, .line, .events, .service, .overrun, .inputs] s (mainsOff s) := by
  exact ((((setInputs_keeps _ s).mono (by decide)).trans ((raise_keeps _ _ _).mono (by decide))).trans
    ((withdrawAll_keeps _ _).mono (by decide))).trans ((endAllTests_keeps _ _ _).mono (by decide))

theorem mainsOn_keeps (s : State) : Keeps [.inputs, .events] s (mainsOn s) := by
  unfold mainsOn
  split
  · exact ((setInputs_keeps _ s).mono (by decide)).trans ((raise_keeps _ _ _).mono (by decide))
  · exact (setInputs_keeps _ s).mono (by decide)

theorem cutDriver_keeps (s : State) : Keeps [.groups, .lums, .mem, .line, .events, .service, .overrun, .sup] s (cutDriver s) := by
  unfold cutDriver
  refine Keeps.trans ?_ ((enterIsolatedDriver_keeps _).mono (by decide))
  refine Keeps.trans ?_ ((endAllTests_keeps _ _ _).mono (by decide))
  refine Keeps.trans ?_ ((withdrawAll_keeps _ _).mono (by decide))
  refine Keeps.trans ?_ ((raise_keeps _ _ _).mono (by decide))
  exact ((emptyQueue_keeps s).mono (by decide)).trans ((setLine_keeps _ _).mono (by decide))

end Sys2Proof.Machine
end

