-- ==== Sys2Proof/Laws/Memory.lean ====
section
/-! SUPPORT. The nonvolatile memory: a write puts its bytes down and leaves every other offset alone, and every operation
keeps the canonical form. -/

namespace Sys2Proof.Machine

/-- The cells of a run lie inside it. -/
theorem Memory.cells_range {bytes : List Byte} {a : Nat} {c : Host.Cell} (h : c ∈ Memory.cells a bytes) :
    a ≤ c.1 ∧ c.1 < a + bytes.length ∧ c.2 ≠ Memory.blank := by
  induction bytes generalizing a with
  | nil => simp [Memory.cells] at h
  | cons b bs ih =>
    simp only [Memory.cells] at h
    split at h
    · have := ih h
      simp only [List.length_cons]
      exact ⟨by omega, by omega, this.2.2⟩
    · rcases List.mem_cons.1 h with h | h
      · subst h
        simp only [List.length_cons]
        exact ⟨by omega, by omega, by assumption⟩
      · have := ih h
        simp only [List.length_cons]
        exact ⟨by omega, by omega, this.2.2⟩

/-- The cells of a run rise strictly. -/
theorem Memory.cells_rising (bytes : List Byte) (a : Nat) :
    List.Pairwise (fun x y : Host.Cell => x.1 < y.1) (Memory.cells a bytes) := by
  induction bytes generalizing a with
  | nil => simp [Memory.cells]
  | cons b bs ih =>
    simp only [Memory.cells]
    split
    · exact ih (a + 1)
    · refine List.Pairwise.cons (fun y hy => ?_) (ih (a + 1))
      have := Memory.cells_range hy
      show a < y.1
      omega

/-- A write keeps the canonical form. -/
theorem Memory.wf_write {m : Memory} (h : m.wf) (base : Nat) (bytes : List Byte) : (m.write base bytes).wf := by
  refine ⟨?_, ?_⟩
  · unfold Memory.write
    refine List.pairwise_append.2 ⟨List.pairwise_append.2 ⟨h.1.filter _, Memory.cells_rising bytes base, ?_⟩,
      h.1.filter _, ?_⟩
    · intro x hx y hy
      have h1 := (List.mem_filter.1 hx).2
      have h2 := Memory.cells_range hy
      simp only [decide_eq_true_eq] at h1
      omega
    · intro x hx y hy
      have h2 := (List.mem_filter.1 hy).2
      simp only [decide_eq_true_eq] at h2
      rcases List.mem_append.1 hx with hx | hx
      · have h1 := (List.mem_filter.1 hx).2
        simp only [decide_eq_true_eq] at h1
        omega
      · have h1 := Memory.cells_range hx
        omega
  · intro c hc
    unfold Memory.write at hc
    rcases List.mem_append.1 hc with hc | hc
    · rcases List.mem_append.1 hc with hc | hc
      · exact h.2 c (List.mem_filter.1 hc).1
      · exact (Memory.cells_range hc).2.2
    · exact h.2 c (List.mem_filter.1 hc).1

/-- What the memory answers to a read keeps the canonical form. -/
theorem Memory.wf_answer {m : Memory} (h : m.wf) (base len : Nat) (answer : MemAnswer) : (m.answer base len answer).1.wf := by
  cases answer with
  | held => exact h
  | rewritten bytes => exact Memory.wf_write h base _
  | absent => exact h

/-- The memory has its canonical form at reset. -/
theorem State.reset_wf : State.reset.mem.nvm.wf := by decide

/-- An abandoned write keeps the canonical form. -/
theorem State.abandonMemory_wf {s : State} (h : s.mem.nvm.wf) : s.abandonMemory.mem.nvm.wf := by
  unfold State.abandonMemory
  split
  · exact Memory.wf_write h _ _
  · exact h

/-- The first cell of a list that satisfies a test, found among lists put one after another. -/
theorem Memory.find_append (p : Host.Cell → Bool) (l m : Memory) :
    (l ++ m).find? p = (l.find? p).or (m.find? p) := List.find?_append

/-- A filter that keeps every cell at `a` does not change what is found there. -/
theorem Memory.find_filter (m : Memory) (p : Host.Cell → Bool) (a : Nat) (h : ∀ c : Host.Cell, c.1 = a → p c = true) :
    (m.filter p).find? (fun c => c.1 == a) = m.find? (fun c => c.1 == a) := by
  induction m with
  | nil => rfl
  | cons c cs ih =>
    by_cases hc : c.1 = a
    · simp [h c hc, hc]
    · have hb : (c.1 == a) = false := by simpa using hc
      cases hp : p c <;> simp only [List.filter_cons, hp, List.find?_cons, hb, if_true, Bool.false_eq_true, if_false, ih]

/-- A filter that keeps no cell at `a` finds none there. -/
theorem Memory.find_filter_none (m : Memory) (p : Host.Cell → Bool) (a : Nat) (h : ∀ c : Host.Cell, c.1 = a → p c = false) :
    (m.filter p).find? (fun c => c.1 == a) = none := by
  refine List.find?_eq_none.2 (fun c hc hca => ?_)
  have := (List.mem_filter.1 hc).2
  rw [h c (by simpa using hca)] at this
  exact absurd this (by decide)

/-- Outside the run a write leaves every byte as it was. -/
theorem Memory.read_write_outside (m : Memory) (base : Nat) (bytes : List Byte) (a : Nat)
    (h : a < base ∨ base + bytes.length ≤ a) : (m.write base bytes).read a = m.read a := by
  have hcells : (Memory.cells base bytes).find? (fun c => c.1 == a) = none := by
    refine List.find?_eq_none.2 (fun c hc => ?_)
    have := Memory.cells_range hc
    simp only [beq_iff_eq]
    omega
  unfold Memory.read Memory.write
  rw [Memory.find_append, Memory.find_append, hcells]
  rcases h with h | h
  · rw [Memory.find_filter m _ a (fun c hc => by simp only [decide_eq_true_eq]; omega),
      Memory.find_filter_none m _ a (fun c hc => by simp only [decide_eq_false_iff_not]; omega)]
    cases m.find? (fun c => c.1 == a) <;> rfl
  · rw [Memory.find_filter_none m _ a (fun c hc => by simp only [decide_eq_false_iff_not]; omega),
      Memory.find_filter m _ a (fun c hc => by simp only [decide_eq_true_eq]; omega)]
    rfl

/-- The cells of a run read as its bytes. -/
theorem Memory.read_cells (bytes : List Byte) (a i : Nat) (h : i < bytes.length) :
    (Memory.cells a bytes).read (a + i) = bytes[i] := by
  induction bytes generalizing a i with
  | nil => simp at h
  | cons b bs ih =>
    cases i with
    | zero =>
      by_cases hb : b = Memory.blank
      · have : (Memory.cells (a + 1) bs).find? (fun c => c.1 == a) = none := by
          refine List.find?_eq_none.2 (fun c hc => ?_)
          have := Memory.cells_range hc
          simp only [beq_iff_eq]
          omega
        simp [Memory.read, Memory.cells, hb, this]
      · simp [Memory.read, Memory.cells, hb]
    | succ i =>
      have hi : i < bs.length := by simpa using h
      have := ih (a + 1) i hi
      rw [show a + 1 + i = a + (i + 1) by omega] at this
      have hne : (a == a + (i + 1)) = false := by simp
      by_cases hb : b = Memory.blank
      · simpa [Memory.cells, hb] using this
      · simpa [Memory.read, Memory.cells, hb, List.find?_cons, hne] using this

/-- Inside the run a write puts its bytes down. -/
theorem Memory.read_write_inside (m : Memory) (base : Nat) (bytes : List Byte) (i : Nat) (h : i < bytes.length) :
    (m.write base bytes).read (base + i) = bytes[i] := by
  rw [← Memory.read_cells bytes base i h]
  unfold Memory.read Memory.write
  rw [Memory.find_append, Memory.find_append,
    Memory.find_filter_none m _ (base + i) (fun c hc => by simp only [decide_eq_false_iff_not]; omega),
    Memory.find_filter_none m _ (base + i) (fun c hc => by simp only [decide_eq_false_iff_not]; omega)]
  cases (Memory.cells base bytes).find? (fun c => c.1 == base + i) <;> rfl

/-- A run that has been put down reads back. -/
theorem Memory.readRun_write (m : Memory) (base : Nat) (bytes : List Byte) :
    (m.write base bytes).readRun base bytes.length = bytes := by
  unfold Memory.readRun
  apply List.ext_getElem
  · simp
  · intro i h1 h2
    simp only [List.getElem_map, List.getElem_range]
    exact Memory.read_write_inside m base bytes i h2

/-- A read answered with rewritten bytes arrives as those bytes. -/
theorem Memory.answer_rewritten (m : Memory) (base : Nat) (bytes : List Byte) :
    (m.answer base bytes.length (.rewritten bytes)).2 = bytes := by
  show (m.write base (bytes.take bytes.length)).readRun base bytes.length = bytes
  rw [List.take_length, Memory.readRun_write]

/-! ### Check codes -/

theorem length_bytesBE (k n : Nat) : (bytesBE k n).length = k := by
  induction k generalizing n with
  | zero => rfl
  | succ k ih => simp [bytesBE, ih]

theorem length_withCrc16 (bytes : List Byte) : (withCrc16 bytes).length = bytes.length + 2 := by
  simp [withCrc16, length_bytesBE]

/-- A record's last two bytes are held against the CRC-16 of those before them. -/
theorem crc16Good_append (bytes last : List Byte) (h : last.length = 2) :
    crc16Good (bytes ++ last) = (last == bytesBE 2 (crc16 bytes).toNat) := by
  have e : (bytes ++ last).length - 2 = bytes.length := by simp [h]
  have l : 2 ≤ (bytes ++ last).length := by simp [h]
  unfold crc16Good
  rw [e, List.drop_left, List.take_left, decide_eq_true l, Bool.true_and]

/-- A run of bytes followed by its CRC-16 passes the check. -/
theorem crc16Good_withCrc16 (bytes : List Byte) : crc16Good (withCrc16 bytes) = true := by
  unfold withCrc16
  rw [crc16Good_append _ _ (length_bytesBE _ _), beq_self_eq_true]

end Sys2Proof.Machine
end

