-- ==== Sys2Proof/Laws/Ops.lean ====
section
/-! SUPPORT. For each shared operation, what it does to the parts its frame names: the lamps, the events, the transmit
queue, the claims and the groups. -/

namespace Sys2Proof.Machine

/-! ### The lamps -/

/-- A step that changes neither pattern leaves the lamps' stamps. -/
theorem relight_same {s t : State} (hr : s.runPattern = t.runPattern) (ht : s.testPattern = t.testPattern) :
    relight s t = t := by
  unfold relight
  rw [if_pos hr, if_pos ht]

theorem relight_self (s : State) : relight s s = s := relight_same rfl rfl

/-! ### Events -/

theorem EventUnit.cell_modCell (u : EventUnit) (k j : Nat) (f : EventCell → EventCell) :
    (u.modCell k f).cell j = if k = j ∧ k < u.cells.length then f (u.cell j) else u.cell j := by
  simp only [EventUnit.cell, EventUnit.modCell, List.getD_eq_getElem?_getD, List.getElem?_modify]
  by_cases h : k = j
  · subst h
    by_cases hl : k < u.cells.length
    · simp [hl]
    · simp [hl]
  · simp [h]

theorem EventUnit.length_modCell (u : EventUnit) (k : Nat) (f : EventCell → EventCell) :
    (u.modCell k f).cells.length = u.cells.length := by
  simp [EventUnit.modCell]

theorem EventUnit.cell_place (u : EventUnit) (r : Report) (k : Nat) : (u.place r).cell k = u.cell k := rfl

/-- REPORT_OVERRUN moves no cell but its own. -/
theorem EventUnit.cell_overrun (u : EventUnit) (lost minutes k : Nat) (h : k ≠ Event.reportOverrun.number) :
    (u.overrun lost minutes).cell k = u.cell k := by
  have e : (u.record Event.reportOverrun.number (eventDetail lost)).cell k = u.cell k := by
    unfold EventUnit.record
    rw [EventUnit.cell_modCell, if_neg (fun c => h c.1.symm)]
  unfold EventUnit.overrun
  simp only
  split
  · split
    · rw [EventUnit.cell_place, e]
    · exact e
  · exact e

theorem EventUnit.cell_offer (u : EventUnit) (r : Report) (minutes k : Nat) (h : k ≠ Event.reportOverrun.number) :
    (u.offer r minutes).cell k = u.cell k := by
  unfold EventUnit.offer
  split
  · rfl
  · exact EventUnit.cell_overrun u r.event minutes k h

/-- R168: what an occurrence of `k` leaves in each cell but REPORT_OVERRUN's. -/
theorem EventUnit.cell_occur (u : EventUnit) (k j : Nat) (d : Detail) (minutes : Nat)
    (h : j ≠ Event.reportOverrun.number) : (u.occur k d minutes).cell j = (u.record k d).cell j := by
  unfold EventUnit.occur
  split
  · exact EventUnit.cell_offer _ _ _ _ h
  · rfl

theorem EventUnit.length_record (u : EventUnit) (k : Nat) (d : Detail) :
    (u.record k d).cells.length = u.cells.length := EventUnit.length_modCell _ _ _

theorem EventUnit.length_overrun (u : EventUnit) (lost minutes : Nat) :
    (u.overrun lost minutes).cells.length = u.cells.length := by
  unfold EventUnit.overrun
  simp only
  split
  · split <;> exact EventUnit.length_record _ _ _
  · exact EventUnit.length_record _ _ _

theorem EventUnit.length_offer (u : EventUnit) (r : Report) (minutes : Nat) :
    (u.offer r minutes).cells.length = u.cells.length := by
  unfold EventUnit.offer
  split
  · rfl
  · exact EventUnit.length_overrun _ _ _

theorem EventUnit.length_occur (u : EventUnit) (k : Nat) (d : Detail) (minutes : Nat) :
    (u.occur k d minutes).cells.length = u.cells.length := by
  unfold EventUnit.occur
  split
  · exact (EventUnit.length_offer _ _ _).trans (EventUnit.length_record _ _ _)
  · exact EventUnit.length_record _ _ _

/-- R168: an event other than REPORT_OVERRUN occurs when it is raised. -/
theorem raise_occurs (e : Event) (d : Detail) (s : State) (h : e.number < s.events.cells.length)
    (ne : e ≠ .reportOverrun) : Occurs e d s (raise e d s) := by
  have hn : e.number ≠ Event.reportOverrun.number := by
    cases e <;> first | exact absurd rfl ne | decide
  show (s.events.occur e.number d s.calendar.minutes).cell e.number = _
  rw [EventUnit.cell_occur _ _ _ _ _ hn]
  unfold EventUnit.record
  rw [EventUnit.cell_modCell, if_pos ⟨rfl, h⟩]

/-- Raising an event moves no cell but its own and REPORT_OVERRUN's. -/
theorem raise_cell_ne (e : Event) (d : Detail) (s : State) (k : Nat) (h : k ≠ e.number)
    (ho : k ≠ Event.reportOverrun.number) : (raise e d s).events.cell k = s.events.cell k := by
  show (s.events.occur e.number d s.calendar.minutes).cell k = _
  rw [EventUnit.cell_occur _ _ _ _ _ ho]
  unfold EventUnit.record
  rw [EventUnit.cell_modCell, if_neg (fun c => h c.1.symm)]

theorem raise_cells_length (e : Event) (d : Detail) (s : State) :
    (raise e d s).events.cells.length = s.events.cells.length := EventUnit.length_occur _ _ _ _

/-! ### The transmit queue -/

theorem Waits.of_line {f : TxFrame} {s t : State} (h : t.line = s.line) : Waits f t ↔ Waits f s := by
  unfold Waits
  rw [h]

theorem noteGone_line (f : TxFrame) (s : State) : (noteGone f s).line = s.line :=
  noteGone_keeps f s .line (by decide)

theorem displaced_line (f : TxFrame) (s : State) : (displaced f s).line = s.line :=
  displaced_keeps f s .line (by decide)

/-- R146, R147: a CLAIM or RELEASE that is offered is held, in the queue or in the backlog. -/
theorem offer_waits (f : TxFrame) (s : State) (h : f.isProtocol = true) : Waits f (offer f s) := by
  have hs : f.isService = false := by cases f <;> first | rfl | cases h
  have merged : ∀ l : List TxFrame, l.any f.mergesWith = true →
      f ∈ l.map (fun w => if f.mergesWith w then f else w) := fun l hl => by
    obtain ⟨w, hw, hm⟩ := List.any_eq_true.mp hl
    exact List.mem_map.mpr ⟨w, hw, by rw [if_pos hm]⟩
  unfold offer
  split
  · rename_i c
    exact Or.inl (merged _ c)
  · split
    · rename_i c
      exact Or.inr (merged _ c)
    · split
      · unfold offerFull
        rw [hs, h]
        simp only [Bool.false_eq_true, if_false, if_true]
        split
        · refine Or.inl ?_
          rw [displaced_line]
          simp
        · split
          · refine Or.inl ?_
            simp
          · refine Or.inr ?_
            simp
      · refine Or.inl ?_
        simp

/-- R146: what an offer to a queue with room and an empty backlog leaves of the line. -/
theorem offer_joined (f : TxFrame) (s : State) (hs : s.line.size < 12) (hb : s.line.backlog = []) :
    (offer f s).line = { s.line with waiting := joined f s.line.waiting } := by
  have room : s.line.full = false := decide_eq_false (Nat.not_le.mpr hs)
  unfold offer joined
  simp only [hb, List.any_nil, Bool.false_eq_true, if_false, room]
  split <;> rfl

/-- R146, R147: what an offer of a CLAIM or RELEASE leaves. -/
theorem offer_offered (f : TxFrame) (s : State) (h : f.isProtocol = true) : Offered f s.line (offer f s) :=
  ⟨offer_waits f s h, offer_joined f s⟩

/-- R147: the frame that a full queue loses is the last that satisfies the test; the others keep their order. -/
theorem dropLast?_spec (p : TxFrame → Bool) {lost : TxFrame} : ∀ {l rest : List TxFrame}, dropLast? p l = some (rest, lost) →
    p lost = true ∧ ∃ before after, l = before ++ lost :: after ∧ rest = before ++ after ∧ ∀ w ∈ after, p w = false := by
  have none_ : ∀ l : List TxFrame, dropLast? p l = none → ∀ w ∈ l, p w = false := by
    intro l
    induction l with
    | nil => exact fun _ _ hw => absurd hw List.not_mem_nil
    | cons x xs ih =>
      intro h w hw
      unfold dropLast? at h
      split at h
      · cases h
      · rename_i e
        split at h
        · cases h
        · rename_i c
          rcases List.mem_cons.mp hw with rfl | m
          · exact Bool.eq_false_of_not_eq_true c
          · exact ih e w m
  intro l
  induction l with
  | nil => exact fun h => by cases h
  | cons x xs ih =>
    intro rest h
    unfold dropLast? at h
    split at h
    · rename_i r y e
      cases h
      obtain ⟨hp, before, after, rfl, rfl, ha⟩ := ih e
      exact ⟨hp, x :: before, after, rfl, rfl, ha⟩
    · rename_i e
      split at h
      · rename_i c
        cases h
        exact ⟨c, [], xs, rfl, rfl, none_ xs e⟩
      · cases h

/-- R178: an offer of a CLAIM, RELEASE or BEACON changes nothing of the service responder but the mark of a RESTART's REPLY
that it displaces. -/
theorem offer_noted (f : TxFrame) (s : State) (h : f.isService = false) : RestartNoted s (offer f s) := by
  have hf : f.ofRestart = false := by cases f <;> first | rfl | cases h
  have merged : ∀ l : List TxFrame,
      (l.map (fun w => if f.mergesWith w then f else w)).countP TxFrame.ofRestart = l.countP TxFrame.ofRestart := fun l => by
    rw [List.countP_map]
    refine List.countP_congr fun w _ => ?_
    show (if f.mergesWith w = true then f else w).ofRestart = true ↔ w.ofRestart = true
    split
    · rename_i c
      have hw : w.ofRestart = false := by
        cases f <;> cases w <;> first | rfl | cases c
      rw [hf, hw]
    · rfl
  have same : ∀ t : State, t.service = s.service → t.line.restarts = s.line.restarts → RestartNoted s t := fun t hs hr => by
    unfold RestartNoted State.restartGone
    rw [hr, hs]
    simp
  have sole : [f].countP TxFrame.ofRestart = 0 := by simp [hf]
  unfold offer
  split
  · exact same _ rfl (by simp [Line.restarts, merged])
  · split
    · exact same _ rfl (by simp [Line.restarts, merged])
    · split
      · unfold offerFull
        rw [h]
        simp only [Bool.false_eq_true, if_false]
        split
        · rename_i rest lost e
          obtain ⟨hp, before, after, hl, rfl, _⟩ := dropLast?_spec _ e
          have service : ∀ u : State, u.service = s.service →
              (displaced lost u).service =
                { s.service with replyGone := s.service.replyGone || lost.ofRestart } := fun u hu => by
            unfold displaced
            split
            · rename_i r
              show (raise _ _ u).service = _
              rw [show (raise Event.reportOverrun (eventDetail r.event) u).service = u.service from rfl, hu]
              simp [TxFrame.ofRestart]
            · unfold noteGone
              split
              · rename_i r
                split
                · rename_i c
                  simp [TxFrame.ofRestart, c, hu]
                · rename_i c
                  simp [TxFrame.ofRestart, Bool.eq_false_of_not_eq_true c, hu]
              · rename_i c
                have : lost.ofRestart = false := by cases lost <;> first | rfl | exact absurd rfl (c _)
                simp [this, hu]
          have count : s.line.restarts = (if lost.ofRestart = true then 1 else 0) +
              Line.restarts { s.line with waiting := before ++ after ++ [f] } := by
            simp only [Line.restarts, hl, List.countP_append, List.countP_cons, sole]
            omega
          have left : decide (Line.restarts { s.line with waiting := before ++ after ++ [f] } < s.line.restarts) =
              lost.ofRestart := by
            rw [count]
            cases lost.ofRestart <;> simp
          unfold RestartNoted State.restartGone
          rw [displaced_line]
          refine (service (s.setLine { s.line with waiting := before ++ after ++ [f] }) rfl).trans ?_
          simp only [State.setLine_line]
          exact congrArg (fun b => { s.service with replyGone := s.service.replyGone || b }) left.symm
        · split
          · split
            · rename_i rest lost e
              obtain ⟨hp, before, after, hl, rfl, _⟩ := dropLast?_spec _ e
              have hlost : lost.ofRestart = false := by cases lost <;> first | rfl | cases hp
              exact same _ rfl (by
                simp only [Line.restarts, State.setLine_line, hl, List.countP_append, List.countP_cons, sole, hlost]
                simp)
            · exact same _ rfl (by
                simp only [Line.restarts, State.setLine_line, List.countP_append, sole]
                omega)
          · exact same _ rfl rfl
      · exact same _ rfl (by
          simp only [Line.restarts, State.setLine_line, List.countP_append, sole]
          omega)

/-- R146: a removal takes the waiting frames that satisfy the test, and no others. -/
theorem removeWaiting_waits (p : TxFrame → Bool) (s : State) (f : TxFrame) :
    Waits f (removeWaiting p s) ↔ Waits f s ∧ p f = false := by
  unfold Waits removeWaiting Line.stopWaiting Line.refill
  simp only [State.setLine_line, List.mem_append]
  generalize hk : queueLimit - Line.size _ = k
  have split_ : ∀ l : List TxFrame, f ∈ l ↔ f ∈ l.take k ∨ f ∈ l.drop k := fun l => by
    rw [← List.mem_append, List.take_append_drop]
  rw [or_assoc, ← split_, List.mem_filter, List.mem_filter, Bool.not_eq_true', ← or_and_right]

theorem removeWaiting_current (p : TxFrame → Bool) (s : State) :
    (removeWaiting p s).line.current = s.line.current := rfl

/-! ### The slot draw -/

/-- R148: what a draw does: the register and the slot change, and nothing else. -/
theorem drawSlot_spec (s : State) :
    (s.line.draw = none ∧ drawSlot s = s) ∨
      ∃ r, s.line.draw = some r ∧
        drawSlot s = s.setLine { s.line with draw := some (drawNext r), slot := some ((drawNext r).toNat % s.line.window) } := by
  unfold drawSlot
  split
  · exact .inr ⟨_, ‹_›, rfl⟩
  · exact .inl ⟨‹_›, rfl⟩

theorem drawSlot_waits (f : TxFrame) (s : State) : Waits f (drawSlot s) ↔ Waits f s := by
  obtain ⟨-, h⟩ | ⟨r, -, h⟩ := drawSlot_spec s
  · rw [h]
  · rw [h]; exact Iff.rfl

/-- R148: what is drawn where an access waits on an idle line. -/
theorem drawnWhileIdle_spec (idle : Bool) (s : State) :
    drawnWhileIdle idle s = if idle = true ∧ s.accesses = true ∧ s.line.slot = none then drawSlot s else s := by
  unfold drawnWhileIdle drawIfNone
  cases idle <;> cases s.accesses <;> cases s.line.slot <;> rfl

theorem drawnWhileIdle_waits (idle : Bool) (f : TxFrame) (s : State) : Waits f (drawnWhileIdle idle s) ↔ Waits f s := by
  rw [drawnWhileIdle_spec]
  split
  · exact drawSlot_waits f s
  · exact Iff.rfl

/-! ### The levels of a frame -/

/-- R140: the ten levels of a character, bit by bit. -/
theorem charLevels_spec (c : Byte) :
    charLevels c =
      [.dominant, dataLevel (c.getLsbD 0), dataLevel (c.getLsbD 1), dataLevel (c.getLsbD 2), dataLevel (c.getLsbD 3),
        dataLevel (c.getLsbD 4), dataLevel (c.getLsbD 5), dataLevel (c.getLsbD 6), dataLevel (c.getLsbD 7), .recessive] :=
  rfl

theorem length_charLevels (c : Byte) : (charLevels c).length = 10 := rfl

/-- R140: what is on the line: the levels of the frame being sent, or none. -/
theorem sentLevels_spec (s : State) :
    (∃ c, s.line.current = some c ∧ c.sending = true ∧ s.sentLevels = c.chars.flatMap charLevels) ∨
      ((∀ c, s.line.current = some c → c.sending = false) ∧ s.sentLevels = []) := by
  unfold State.sentLevels
  cases hc : s.line.current with
  | none => exact .inr ⟨nofun, rfl⟩
  | some c =>
    cases hs : c.sending with
    | true => exact .inl ⟨c, rfl, hs, if_pos hs⟩
    | false =>
      refine .inr ⟨fun d hd => ?_, if_neg (by rw [hs]; decide)⟩
      cases hd
      exact hs

/-! ### Claims -/

theorem queueClaim_waits (g : Nat) (s : State) (c : ClaimRecord) (h : (s.group g).claim = some c) :
    Waits (.claim g (s.claimBody g c.phase)) (queueClaim g s) := by
  unfold queueClaim
  rw [h]
  exact offer_waits _ _ rfl

theorem queueClaim_group (g k : Nat) (s : State) : (queueClaim g s).group k = s.group k := by
  have h : (queueClaim g s).groups = s.groups := queueClaim_keeps g s .groups (by decide)
  unfold State.group
  rw [h]

theorem startRefresh_group_ne (g k : Nat) (s : State) (h : k ≠ g) : (startRefresh g s).group k = s.group k :=
  State.group_modGroup_ne _ _ _ _ h

/-- R42: the refresh of the group's claim record stands at 60 s. -/
theorem startRefresh_group (g : Nat) (s : State) (h : g < s.groups.length) :
    (startRefresh g s).group g =
      { s.group g with claim := (s.group g).claim.map (fun c => { c with refresh := some 60 }) } :=
  State.group_modGroup _ _ _ h

theorem yieldGroup_group (g : Nat) (s : State) (h : g < s.groups.length) :
    (s.yieldGroup g).group g =
      { (s.group g).enter .due with
        claim := none, backoff := backoffMinutes (s.group g).claimUrgency s.ownAddress } :=
  State.group_modGroup _ _ _ h

theorem yieldGroup_group_ne (g k : Nat) (s : State) (h : k ≠ g) : (s.yieldGroup g).group k = s.group k :=
  State.group_modGroup_ne _ _ _ _ h

/-! ### The overrun latch -/

/-- The groups in a set of states, as a list, are those below 24 in one of them. -/
theorem State.mem_groupsIn (s : State) (p : GState → Bool) (g : Nat) :
    g ∈ s.groupsIn p ↔ g < 24 ∧ p (s.group g).state = true := by
  unfold State.groupsIn groupNumbers
  rw [List.mem_filter, List.mem_range]

/-- The first of them is the lowest. -/
theorem State.groupsIn_head (s : State) (p : GState → Bool) {g : Nat} {rest : List Nat} (h : s.groupsIn p = g :: rest) :
    ∀ k, k < 24 → p (s.group k).state = true → g ≤ k := fun k hk hp => by
  have sorted : (s.groupsIn p).Pairwise (· < ·) := List.Pairwise.filter _ List.pairwise_lt_range
  have mem : k ∈ s.groupsIn p := (s.mem_groupsIn p k).mpr ⟨hk, hp⟩
  rw [h] at sorted mem
  rcases List.mem_cons.mp mem with rfl | m
  · exact Nat.le_refl _
  · exact Nat.le_of_lt (List.rel_of_pairwise_cons sorted m)

/-- R48: an evaluation of the overrun latch in `u`, after a change that led there from `s` and touched neither the latch, the
cap, the view load nor LOAD_OVER. -/
theorem evalOverrun_relatched {s u : State} (hf : u.figures.cap = s.figures.cap) (hv : u.viewLoad = s.viewLoad)
    (ho : u.overrun = s.overrun) (hl : u.events.cells.length = s.events.cells.length)
    (hc : u.events.cell Event.loadOver.number = s.events.cell Event.loadOver.number) : Relatched s (evalOverrun u) := by
  have total : u.totalLoad = s.viewLoad + u.ownWeight := by unfold State.totalLoad; rw [hv]
  unfold evalOverrun
  split
  · rename_i g rest e
    have hg := (u.mem_groupsIn _ g).mp (e ▸ List.mem_cons_self)
    have first := u.groupsIn_head _ e
    rw [total, hf]
    split
    · rename_i above
      split
      · rename_i set
        exact ⟨⟨fun _ => ⟨⟨g, hg⟩, above⟩, fun _ => set⟩, fun h => Bool.noConfusion (set.symm.trans (ho.trans h)), fun _ => hc⟩
      · rename_i clear
        have clear' : s.overrun = false := ho ▸ Bool.eq_false_of_not_eq_true clear
        refine ⟨⟨fun _ => ⟨⟨g, hg⟩, above⟩, fun _ => rfl⟩, fun _ _ cells k hk past least => ?_, fun h => ?_⟩
        · have same : k = g :=
            Nat.le_antisymm (Nat.le_of_not_lt fun lt => Bool.false_ne_true ((least g lt).symm.trans hg.2)) (first k hk past)
          subst same
          have occ := raise_occurs .loadOver (groupDetail k) { u with overrun := true }
            (show Event.loadOver.number < u.events.cells.length by rw [hl, cells]; decide) (by decide)
          unfold Occurs at occ ⊢
          exact hc ▸ occ
        · rcases h with h | h
          · rw [clear'] at h; cases h
          · cases h
    · rename_i under
      exact ⟨⟨fun h => Bool.noConfusion h, fun h => absurd h.2 under⟩, fun _ h => Bool.noConfusion h, fun _ => hc⟩
  · rename_i e
    refine ⟨⟨fun h => Bool.noConfusion h, fun ⟨⟨k, hk⟩, _⟩ => ?_⟩, fun _ h => Bool.noConfusion h, fun _ => hc⟩
    have := (u.mem_groupsIn GState.past k).mpr hk
    rw [e] at this
    cases this

/-! ### Withdrawals -/

/-- R33: a withdrawal touches no group but its own. -/
theorem withdrawQuiet_group_ne (g k : Nat) (r : Option Reason) (s : State) (h : k ≠ g) :
    (withdrawQuiet g r s).group k = s.group k := by
  have hp : ∀ t : State, t = removeProposal g s ∨ (∃ f, t = offer f (removeProposal g s)) → t.group k = s.group k := by
    intro t ht
    have hg : t.groups = s.groups := by
      have h1 : (removeProposal g s).groups = s.groups := removeProposal_keeps g s .groups (by decide)
      rcases ht with rfl | ⟨f, rfl⟩
      · exact h1
      · exact (offer_keeps f _ .groups (by decide)).trans h1
    unfold State.group
    rw [hg]
  unfold withdrawQuiet
  split
  · split
    · rw [yieldGroup_group_ne _ _ _ h]
      exact hp _ (Or.inr ⟨_, rfl⟩)
    · rw [yieldGroup_group_ne _ _ _ h]
      exact hp _ (Or.inl rfl)
  · rfl

theorem withdraw_group_ne (g k : Nat) (r : Option Reason) (s : State) (h : k ≠ g) :
    (withdraw g r s).group k = s.group k := by
  unfold withdraw
  split
  · have e : (evalOverrun (withdrawQuiet g r s)).groups = (withdrawQuiet g r s).groups :=
      evalOverrun_keeps _ .groups (by decide)
    rw [← withdrawQuiet_group_ne g k r s h]
    unfold State.group
    rw [e]
  · rfl

/-- R33, R16: a PROPOSED group that is withdrawn is DUE, without a claim and with its backoff. -/
theorem withdrawQuiet_group (g : Nat) (r : Option Reason) (s : State) (h : g < s.groups.length)
    (hp : (s.group g).state = .proposed) :
    (withdrawQuiet g r s).group g =
      { (s.group g).enter .due with
        claim := none, backoff := backoffMinutes (s.group g).claimUrgency s.ownAddress } := by
  have key : ∀ t : State, t.groups = s.groups → t.figures = s.figures →
      (t.yieldGroup g).group g =
        { (s.group g).enter .due with
          claim := none, backoff := backoffMinutes (s.group g).claimUrgency s.ownAddress } := by
    intro t hg hf
    have e : t.group g = s.group g := by unfold State.group; rw [hg]
    have a : t.ownAddress = s.ownAddress := by unfold State.ownAddress; rw [hf]
    rw [yieldGroup_group g t (by rw [hg]; exact h), e, a]
  have h1 : (removeProposal g s).groups = s.groups := removeProposal_keeps g s .groups (by decide)
  have h2 : (removeProposal g s).figures = s.figures := removeProposal_keeps g s .figures (by decide)
  unfold withdrawQuiet
  rw [if_pos hp]
  split
  · exact key _ ((offer_keeps _ _ .groups (by decide)).trans h1) ((offer_keeps _ _ .figures (by decide)).trans h2)
  · exact key _ h1 h2

/-! ### The end of a test -/

theorem State.group_of_groups {s t : State} (h : t.groups = s.groups) (k : Nat) : t.group k = s.group k := by
  unfold State.group
  rw [h]

/-- R43: the claim record goes to RECOVERING with its refresh at 60 s. -/
theorem claimRecovering_group (g : Nat) (s : State) (h : g < s.groups.length) :
    (claimRecovering g s).group g =
      { s.group g with
        claim := (s.group g).claim.map (fun c => { c with phase := .recovering, hold := none, refresh := some 60 }) } := by
  unfold claimRecovering
  have hl : (queueClaim g (s.modGroup g (fun gr =>
      { gr with claim := gr.claim.map (fun c => { c with phase := .recovering, hold := none }) }))).groups.length =
      s.groups.length := by
    rw [show (queueClaim g _).groups = _ from queueClaim_keeps g _ .groups (by decide)]
    exact State.modGroup_groups_length _ _ _
  rw [startRefresh_group _ _ (by rw [hl]; exact h), queueClaim_group, State.group_modGroup _ _ _ h]
  simp only [Option.map_map]
  rfl

theorem claimRecovering_group_ne (g k : Nat) (s : State) (h : k ≠ g) : (claimRecovering g s).group k = s.group k := by
  unfold claimRecovering
  rw [startRefresh_group_ne _ _ _ h, queueClaim_group, State.group_modGroup_ne _ _ _ _ h]

theorem finishTest_writes_groups (g : Nat) (members : List Nat) (minute : Nat) (s : State) :
    (members.foldl (writeMember g minute) (members.foldl clearRequest s)).groups = s.groups := by
  have h1 : (members.foldl clearRequest s).groups = s.groups :=
    Keeps.foldl (fun t n => clearRequest_keeps n t) members s .groups (by decide)
  have h2 := Keeps.foldl (fun t n => writeMember_keeps g minute n t) members (members.foldl clearRequest s) .groups (by decide)
  exact Eq.trans h2 h1

/-- R80 to R82, R90: the group after the end of its test. -/
theorem finishTest_group (g : Nat) (r : GResult) (k : Nat) (e : Event) (s : State) (h : g < s.groups.length) :
    (finishTest g r k e s).group g =
      { (s.group g).finish r k with
        claim := ((s.group g).finish r k).claim.map
          (fun c => { c with phase := .recovering, hold := none, refresh := some 60 }) } := by
  unfold finishTest
  have hg := finishTest_writes_groups g (s.group g).defn.members (s.group g).startMinute s
  show (claimRecovering g _).group g = _
  rw [claimRecovering_group _ _ (by rw [State.modGroup_groups_length, hg]; exact h),
    State.group_modGroup _ _ _ (by rw [hg]; exact h), State.group_of_groups hg]

theorem finishTest_group_ne (g j : Nat) (r : GResult) (k : Nat) (e : Event) (s : State) (h : j ≠ g) :
    (finishTest g r k e s).group j = s.group j := by
  unfold finishTest
  have hg := finishTest_writes_groups g (s.group g).defn.members (s.group g).startMinute s
  show (claimRecovering g _).group j = _
  rw [claimRecovering_group_ne _ _ _ h, State.group_modGroup_ne _ _ _ _ h, State.group_of_groups hg]

theorem endTest_group_ne (g j : Nat) (r : GResult) (owed : Bool) (s : State) (h : j ≠ g) :
    (endTest g r owed s).group j = s.group j := by
  unfold endTest
  simp only
  split
  · rw [finishTest_group_ne _ _ _ _ _ _ h]
    exact State.group_of_groups (Keeps.foldl (fun t n => abortMember_keeps owed n t) _ s .groups (by decide)) j
  · rfl

/-- R82 to R84: the group after the early end of its test. -/
theorem endTest_group (g : Nat) (r : GResult) (owed : Bool) (s : State) (h : g < s.groups.length)
    (ht : (s.group g).state = .testing) :
    let k := earlyRecharge (s.group g).defn.rechargeHours (s.group g).defn.minutes (s.elapsed (s.group g))
    (endTest g r owed s).group g =
      { (s.group g).finish r k with
        claim := ((s.group g).finish r k).claim.map
          (fun c => { c with phase := .recovering, hold := none, refresh := some 60 }) } := by
  intro k
  have hg : ((s.group g).defn.members.foldl (abortMember owed) s).groups = s.groups :=
    Keeps.foldl (fun t n => abortMember_keeps owed n t) _ s .groups (by decide)
  unfold endTest
  simp only
  rw [if_pos ht, finishTest_group _ _ _ _ _ (by rw [hg]; exact h), State.group_of_groups hg]

/-- R43: the CLAIM of a group that ends its test waits, with phase RECOVERING and the recharge as its remaining minutes. -/
theorem claimRecovering_waits (g : Nat) (s : State) (c : ClaimRecord) (h : g < s.groups.length)
    (hc : (s.group g).claim = some c) :
    Waits
      (.claim g
        { phase := .recovering, urgency := (s.group g).claimUrgency, weight := (s.group g).weight,
          remaining := (s.group g).recharge.getD 0, home := (s.group g).defn.home,
          neighbours := (s.group g).defn.neighbours })
      (claimRecovering g s) := by
  unfold claimRecovering
  have hg := State.group_modGroup s g (fun gr =>
    { gr with claim := gr.claim.map (fun c => { c with phase := .recovering, hold := none }) }) h
  have hw := queueClaim_waits g _ { c with phase := .recovering, hold := none } (by rw [hg, hc]; rfl)
  rw [Waits.of_line (startRefresh_keeps g _ .line (by decide))]
  convert hw using 2
  simp only [State.claimBody, hg]
  rfl

/-- R81, R82: after the end of a test the CLAIM with the new recharge waits. -/
theorem finishTest_waits (g : Nat) (r : GResult) (k : Nat) (e : Event) (s : State) (c : ClaimRecord) (h : g < s.groups.length)
    (hc : (s.group g).claim = some c) :
    Waits
      (.claim g
        { phase := .recovering, urgency := (s.group g).claimUrgency, weight := (s.group g).weight, remaining := k,
          home := (s.group g).defn.home, neighbours := (s.group g).defn.neighbours })
      (finishTest g r k e s) := by
  have hg := finishTest_writes_groups g (s.group g).defn.members (s.group g).startMinute s
  unfold finishTest
  simp only
  rw [Waits.of_line (raise_keeps e _ _ .line (by decide))]
  have hm := State.group_modGroup _ g (fun gr : Group => gr.finish r k) (by rw [hg]; exact h)
  rw [State.group_of_groups hg] at hm
  have hf : ∀ gr : Group, (gr.finish r k).claim = gr.claim ∧ (gr.finish r k).claimUrgency = gr.claimUrgency ∧
      (gr.finish r k).defn = gr.defn ∧ (gr.finish r k).recharge = some k := fun gr => by
    cases r <;> exact ⟨rfl, rfl, rfl, rfl⟩
  have hw := claimRecovering_waits g _ c ((State.modGroup_groups_length _ g fun gr => gr.finish r k).symm ▸ hg.symm ▸ h)
    (by rw [hm, (hf _).1, hc])
  rw [hm] at hw
  simpa only [(hf _).2.1, (hf _).2.2.1, (hf _).2.2.2, Group.weight, Option.getD_some] using hw

/-- R35, step 1: the judgement of one own group touches no other. -/
theorem judgeGroup_group_ne (j : Judged) (g k : Nat) (s : State) (h : k ≠ g) : (judgeGroup j s g).group k = s.group k := by
  unfold judgeGroup
  split
  · unfold judgeProposed
    split
    · exact withdrawQuiet_group_ne _ _ _ _ h
    · rfl
  · unfold judgeTesting
    split
    · rfl
    · split
      · exact endTest_group_ne _ _ _ _ _ h
      · rfl
  · unfold judgeRecovering
    split <;> rfl
  · rfl

/-! ### Loop replies -/

/-- R97: a good reply is five characters with their stop bits at the idle level, the CRC-8 right and the address the
command's. -/
theorem goodReply_spec (n : Nat) (chars : List LoopChar) (r : LoopReply) :
    goodReply n chars = some r ↔
      ∃ a b c d e rest, chars = a :: b :: c :: d :: e :: rest ∧
        (a.stop = true ∧ b.stop = true ∧ c.stop = true ∧ d.stop = true ∧ e.stop = true) ∧
        e.value = crc8 [a.value, b.value, c.value, d.value] ∧ a.value = byte n ∧
        r = { status := b.value &&& 0x07#8, volts := c.value, faults := d.value &&& 0x07#8 } := by
  constructor
  · intro h
    match chars, h with
    | a :: b :: c :: d :: e :: rest, h =>
      refine ⟨a, b, c, d, e, rest, rfl, ?_⟩
      unfold goodReply at h
      split at h
      · next hs hv =>
        simp only [List.map_cons, List.cons.injEq] at hv
        obtain ⟨rfl, rfl, rfl, rfl, rfl, -⟩ := hv
        split at h
        · next hc => exact ⟨by simpa using hs, hc.1, hc.2, (Option.some.inj h).symm⟩
        · cases h
      · cases h
    | [], h => simp [goodReply] at h
    | [_], h => simp [goodReply] at h
    | [_, _], h => simp [goodReply] at h
    | [_, _, _], h => simp [goodReply] at h
    | [_, _, _, _], h => simp [goodReply] at h
  · rintro ⟨a, b, c, d, e, rest, rfl, ⟨h1, h2, h3, h4, h5⟩, hc, ha, rfl⟩
    simp [goodReply, h1, h2, h3, h4, h5, hc, ha]

/-! ### The layout of a REPLY's data (section 11.2) -/

theorem laidOut_nil : laidOut [] = [] := rfl

theorem laidOut_cons (f : Nat × Nat) (l : List (Nat × Nat)) : laidOut (f :: l) = bytesBE f.1 f.2 ++ laidOut l := by
  simp [laidOut]

theorem laidOut_append (k l : List (Nat × Nat)) : laidOut (k ++ l) = laidOut k ++ laidOut l := by simp [laidOut]

theorem bytesBE_one (n : Nat) : bytesBE 1 n = [byte n] := rfl

theorem byte_toNat (b : Byte) : byte b.toNat = b := by simp [byte]

theorem bytesBE_shownFlag (b : Bool) : bytesBE (shownFlag b).1 (shownFlag b).2 = [flag b] := by cases b <;> rfl

theorem bytesBE_shown_one (v : Option Nat) : bytesBE (shown 1 v).1 (shown 1 v).2 = optBE 1 v := by cases v <;> rfl

theorem bytesBE_shown_two (v : Option Nat) : bytesBE (shown 2 v).1 (shown 2 v).2 = optBE 2 v := by cases v <;> rfl

theorem bytesBE_shown_four (v : Option Nat) : bytesBE (shown 4 v).1 (shown 4 v).2 = optBE 4 v := by cases v <;> rfl

theorem setNat_perm {k l : List Nat} (h : k.Perm l) : setNat k = setNat l := (h.map _).sum_eq

/-- A set is sent as the value whose bit `k` names its member `k`. -/
theorem setNat_testBit (l : List Nat) (h : l.Nodup) (k : Nat) : (setNat l).testBit k = true ↔ k ∈ l := by
  have hp := l.perm_insertionSort (· ≤ ·)
  have hs : (l.insertionSort (· ≤ ·)).SortedLT :=
    List.SortedLE.sortedLT_of_nodup (List.pairwise_insertionSort (· ≤ ·) l).sortedLE (hp.nodup_iff.2 h)
  rw [← setNat_perm hp, ← hp.mem_iff, ← Nat.mem_bitIndices]
  unfold setNat
  rw [Nat.bitIndices_sum_map_two_pow hs]

end Sys2Proof.Machine
end

