-- ==== Sys2Proof/WellFormed.lean ====
section
/-! DEFINITION. Which commands are well formed: their operands lie where the manual lets them lie. -/

namespace Sys2Proof

/-- A group number of the group table (section 1.2). -/
def groupOk (g : Nat) : Bool := decide (g < 24)

/-- A loop address (Chapter 5). -/
def luminaireOk (n : Nat) : Bool := decide (n < 128)

/-- A millisecond part of the tick (R111). -/
def msOk (ms : Nat) : Bool := decide (ms < 1000)

/-- A payload of a frame that reached its end (section 8.2). -/
def payloadOk (bytes : List Byte) : Bool := decide (bytes.length ≤ 40)

/-- The payload bytes after an item or command code. -/
def argsOk (bytes : List Byte) : Bool := decide (bytes.length ≤ 39)

/-- The characters of a reply window (R97): what follows the fifth is ignored. -/
def replyOk (chars : List LoopChar) : Bool := decide (chars.length ≤ 5)

/-- A read answer for a transaction of `len` bytes (R153). -/
def answerOk (len : Nat) : MemAnswer → Bool
  | .held => true
  | .rewritten bytes => decide (bytes.length = len)
  | .absent => true

/-- The kinds that have a row of their own (section 8.2): BEACON, CLAIM and RELEASE. -/
def protocolKind (kind : Byte) : Bool := kind == 0x01#8 || kind == 0x02#8 || kind == 0x03#8

def Instr.wellFormed : Instr → Bool
  | .powerOnReset => true
  | .resetN => true
  | .oscillatorStop => true
  | .configBlockRead answer => answerOk 512 answer
  | .groupRecordRead answer ms => answerOk 32 answer && msOk ms
  | .luminaireRecordRead answer ms => answerOk 32 answer && msOk ms
  | .tickSecond => true
  | .minuteTick => true
  | .schedulingPass => true
  | .backoffExpiry g => groupOk g
  | .holdExpiry g ms => groupOk g && msOk ms
  | .pollRound g ms => groupOk g && msOk ms
  | .endInstant n ms => luminaireOk n && msOk ms
  | .refreshExpiry g ms => groupOk g && msOk ms
  | .rechargeComplete g _ => groupOk g
  | .beaconCountdownExpiry => true
  | .claimReceived _ _ payload ms => payloadOk payload && msOk ms
  | .releaseReceived _ _ payload ms => payloadOk payload && msOk ms
  | .beaconReceived _ _ payload ms => payloadOk payload && msOk ms
  | .otherFrameReceived _ _ kind ms => !protocolKind kind && msOk ms
  | .rxFrameBroken _ chars => decide (chars.length < 46)
  | .entryAgeOut => true
  | .peerRechargeEnd => true
  | .overflowHoldExpiry => true
  | .listenExpiry => true
  | .clearTimerExpiry => true
  | .silenceExpiry _ => true
  | .fallbackExpiry => true
  | .driverCut bits ms => decide (16 < bits) && msOk ms
  | .driverReenable => true
  | .lineHeld bits => decide (64 ≤ bits)
  | .lineHeldCleared bits => decide (12 ≤ bits)
  | .txAttemptStart => true
  | .txDefer => true
  | .txComplete => true
  | .txCollision => true
  | .branchGrant _ => true
  | .loopRetry _ chars => replyOk chars
  | .loopTransactionComplete _ chars ms => replyOk chars && msOk ms
  | .sweepStart => true
  | .msenseChange _ ms => msOk ms
  | .validatedOff ms _ => msOk ms
  | .validatedOn ms => msOk ms
  | .outageHoldExpiry => true
  | .inhibitChange _ ms => msOk ms
  | .inhibitValidated ms => msOk ms
  | .inhibitStuck => true
  | .skeyChange _ ms => msOk ms
  | .skeyValidated ms => msOk ms
  | .calendarAdvance => true
  | .stationStatus _ _ args ms => argsOk args && msOk ms
  | .group _ _ args ms => argsOk args && msOk ms
  | .luminaire _ _ args ms => argsOk args && msOk ms
  | .history _ _ args ms => argsOk args && msOk ms
  | .peerEntry _ _ args ms => argsOk args && msOk ms
  | .eventStatus _ _ args ms => argsOk args && msOk ms
  | .counters _ _ args ms => argsOk args && msOk ms
  | .setTime _ _ args ms => argsOk args && msOk ms
  | .hold _ _ args ms => argsOk args && msOk ms
  | .resume _ _ args ms => argsOk args && msOk ms
  | .force _ _ args ms => argsOk args && msOk ms
  | .cancel _ _ args ms => argsOk args && msOk ms
  | .clearEvents _ _ args ms => argsOk args && msOk ms
  | .clearIsolation _ _ args ms => argsOk args && msOk ms
  | .probe _ _ args ms => argsOk args && msOk ms
  | .restart _ _ args ms => argsOk args && msOk ms
  | .restartTaken => true
  | .memoryGrant => true
  | .flushComplete => true
  | .historyLineWritten => true
  | .fillComplete answer => answerOk 128 answer
  | .reportOffer => true
  | .rxFrameDiscarded chars => decide (6 ≤ chars.length ∧ chars.length ≤ 46)
  | .unknownServiceCode _ _ _ payload ms => payloadOk payload && msOk ms
  | .powerLoss => true

end Sys2Proof
end

