-- ==== Sys2Proof/Laws/PerInstr.lean ====
section
/-! SUPPORT. For every command, what its being well formed says of its operands: the group lies in the group table, the
luminaire on the loop, and the millisecond part below a second. -/

namespace Sys2Proof.Laws.InRange

/-- The group a timer step names. -/
def groupOperand : Instr → Option Nat
  | .backoffExpiry g => some g
  | .holdExpiry g _ => some g
  | .pollRound g _ => some g
  | .refreshExpiry g _ => some g
  | .rechargeComplete g _ => some g
  | _ => none

/-- The luminaire a timer step names. -/
def lumOperand : Instr → Option Nat
  | .endInstant n _ => some n
  | _ => none

/-- The millisecond part of the tick that a step carries. -/
def msOperand : Instr → Option Nat
  | .groupRecordRead _ ms => some ms
  | .luminaireRecordRead _ ms => some ms
  | .holdExpiry _ ms => some ms
  | .pollRound _ ms => some ms
  | .endInstant _ ms => some ms
  | .refreshExpiry _ ms => some ms
  | .claimReceived _ _ _ ms => some ms
  | .releaseReceived _ _ _ ms => some ms
  | .beaconReceived _ _ _ ms => some ms
  | .otherFrameReceived _ _ _ ms => some ms
  | .driverCut _ ms => some ms
  | .loopTransactionComplete _ _ ms => some ms
  | .msenseChange _ ms => some ms
  | .validatedOff ms _ => some ms
  | .validatedOn ms => some ms
  | .inhibitChange _ ms => some ms
  | .inhibitValidated ms => some ms
  | .skeyChange _ ms => some ms
  | .skeyValidated ms => some ms
  | .stationStatus _ _ _ ms => some ms
  | .group _ _ _ ms => some ms
  | .luminaire _ _ _ ms => some ms
  | .history _ _ _ ms => some ms
  | .peerEntry _ _ _ ms => some ms
  | .eventStatus _ _ _ ms => some ms
  | .counters _ _ _ ms => some ms
  | .setTime _ _ _ ms => some ms
  | .hold _ _ _ ms => some ms
  | .resume _ _ _ ms => some ms
  | .force _ _ _ ms => some ms
  | .cancel _ _ _ ms => some ms
  | .clearEvents _ _ _ ms => some ms
  | .clearIsolation _ _ _ ms => some ms
  | .probe _ _ _ ms => some ms
  | .restart _ _ _ ms => some ms
  | .unknownServiceCode _ _ _ _ ms => some ms
  | _ => none

/-- The operands of a well-formed command lie where the manual lets them lie. -/
def Statement (i : Instr) : Prop :=
  i.wellFormed = true →
    (∀ g, groupOperand i = some g → g < 24) ∧ (∀ n, lumOperand i = some n → n < 128) ∧
      (∀ ms, msOperand i = some ms → ms < 1000)

theorem powerOnReset : Statement (.powerOnReset) := by
  exact fun _ => ⟨fun k e => (nomatch e), fun k e => (nomatch e), fun k e => (nomatch e)⟩

theorem resetN : Statement (.resetN) := by
  exact fun _ => ⟨fun k e => (nomatch e), fun k e => (nomatch e), fun k e => (nomatch e)⟩

theorem oscillatorStop : Statement (.oscillatorStop) := by
  exact fun _ => ⟨fun k e => (nomatch e), fun k e => (nomatch e), fun k e => (nomatch e)⟩

theorem configBlockRead (answer : MemAnswer) : Statement (.configBlockRead answer) := by
  exact fun _ => ⟨fun k e => (nomatch e), fun k e => (nomatch e), fun k e => (nomatch e)⟩

theorem groupRecordRead (answer : MemAnswer) (ms : Nat) : Statement (.groupRecordRead answer ms) := by
  intro h
  change (answerOk 32 answer && msOk ms) = true at h
  simp only [Bool.and_eq_true] at h
  exact ⟨fun k e => (nomatch e), fun k e => (nomatch e), fun k e => (by cases e; exact of_decide_eq_true h.2)⟩

theorem luminaireRecordRead (answer : MemAnswer) (ms : Nat) : Statement (.luminaireRecordRead answer ms) := by
  intro h
  change (answerOk 32 answer && msOk ms) = true at h
  simp only [Bool.and_eq_true] at h
  exact ⟨fun k e => (nomatch e), fun k e => (nomatch e), fun k e => (by cases e; exact of_decide_eq_true h.2)⟩

theorem tickSecond : Statement (.tickSecond) := by
  exact fun _ => ⟨fun k e => (nomatch e), fun k e => (nomatch e), fun k e => (nomatch e)⟩

theorem minuteTick : Statement (.minuteTick) := by
  exact fun _ => ⟨fun k e => (nomatch e), fun k e => (nomatch e), fun k e => (nomatch e)⟩

theorem schedulingPass : Statement (.schedulingPass) := by
  exact fun _ => ⟨fun k e => (nomatch e), fun k e => (nomatch e), fun k e => (nomatch e)⟩

theorem backoffExpiry (g : Nat) : Statement (.backoffExpiry g) := by
  intro h
  change (groupOk g) = true at h
  exact ⟨fun k e => (by cases e; exact of_decide_eq_true h), fun k e => (nomatch e), fun k e => (nomatch e)⟩

theorem holdExpiry (g ms : Nat) : Statement (.holdExpiry g ms) := by
  intro h
  change (groupOk g && msOk ms) = true at h
  simp only [Bool.and_eq_true] at h
  exact ⟨fun k e => (by cases e; exact of_decide_eq_true h.1), fun k e => (nomatch e), fun k e => (by cases e; exact of_decide_eq_true h.2)⟩

theorem pollRound (g ms : Nat) : Statement (.pollRound g ms) := by
  intro h
  change (groupOk g && msOk ms) = true at h
  simp only [Bool.and_eq_true] at h
  exact ⟨fun k e => (by cases e; exact of_decide_eq_true h.1), fun k e => (nomatch e), fun k e => (by cases e; exact of_decide_eq_true h.2)⟩

theorem endInstant (n ms : Nat) : Statement (.endInstant n ms) := by
  intro h
  change (luminaireOk n && msOk ms) = true at h
  simp only [Bool.and_eq_true] at h
  exact ⟨fun k e => (nomatch e), fun k e => (by cases e; exact of_decide_eq_true h.1), fun k e => (by cases e; exact of_decide_eq_true h.2)⟩

theorem refreshExpiry (g ms : Nat) : Statement (.refreshExpiry g ms) := by
  intro h
  change (groupOk g && msOk ms) = true at h
  simp only [Bool.and_eq_true] at h
  exact ⟨fun k e => (by cases e; exact of_decide_eq_true h.1), fun k e => (nomatch e), fun k e => (by cases e; exact of_decide_eq_true h.2)⟩

theorem rechargeComplete (g : Nat) (idle : Bool) : Statement (.rechargeComplete g idle) := by
  intro h
  change (groupOk g) = true at h
  exact ⟨fun k e => (by cases e; exact of_decide_eq_true h), fun k e => (nomatch e), fun k e => (nomatch e)⟩

theorem beaconCountdownExpiry : Statement (.beaconCountdownExpiry) := by
  exact fun _ => ⟨fun k e => (nomatch e), fun k e => (nomatch e), fun k e => (nomatch e)⟩

theorem claimReceived (src dst : Byte) (payload : List Byte) (ms : Nat) : Statement (.claimReceived src dst payload ms) := by
  intro h
  change (payloadOk payload && msOk ms) = true at h
  simp only [Bool.and_eq_true] at h
  exact ⟨fun k e => (nomatch e), fun k e => (nomatch e), fun k e => (by cases e; exact of_decide_eq_true h.2)⟩

theorem releaseReceived (src dst : Byte) (payload : List Byte) (ms : Nat) : Statement (.releaseReceived src dst payload ms) := by
  intro h
  change (payloadOk payload && msOk ms) = true at h
  simp only [Bool.and_eq_true] at h
  exact ⟨fun k e => (nomatch e), fun k e => (nomatch e), fun k e => (by cases e; exact of_decide_eq_true h.2)⟩

theorem beaconReceived (src dst : Byte) (payload : List Byte) (ms : Nat) : Statement (.beaconReceived src dst payload ms) := by
  intro h
  change (payloadOk payload && msOk ms) = true at h
  simp only [Bool.and_eq_true] at h
  exact ⟨fun k e => (nomatch e), fun k e => (nomatch e), fun k e => (by cases e; exact of_decide_eq_true h.2)⟩

theorem otherFrameReceived (src dst kind : Byte) (ms : Nat) : Statement (.otherFrameReceived src dst kind ms) := by
  intro h
  change (!protocolKind kind && msOk ms) = true at h
  simp only [Bool.and_eq_true] at h
  exact ⟨fun k e => (nomatch e), fun k e => (nomatch e), fun k e => (by cases e; exact of_decide_eq_true h.2)⟩

theorem rxFrameBroken (how : RxBreak) (chars : List Byte) : Statement (.rxFrameBroken how chars) := by
  exact fun _ => ⟨fun k e => (nomatch e), fun k e => (nomatch e), fun k e => (nomatch e)⟩

theorem entryAgeOut : Statement (.entryAgeOut) := by
  exact fun _ => ⟨fun k e => (nomatch e), fun k e => (nomatch e), fun k e => (nomatch e)⟩

theorem peerRechargeEnd : Statement (.peerRechargeEnd) := by
  exact fun _ => ⟨fun k e => (nomatch e), fun k e => (nomatch e), fun k e => (nomatch e)⟩

theorem overflowHoldExpiry : Statement (.overflowHoldExpiry) := by
  exact fun _ => ⟨fun k e => (nomatch e), fun k e => (nomatch e), fun k e => (nomatch e)⟩

theorem listenExpiry : Statement (.listenExpiry) := by
  exact fun _ => ⟨fun k e => (nomatch e), fun k e => (nomatch e), fun k e => (nomatch e)⟩

theorem clearTimerExpiry : Statement (.clearTimerExpiry) := by
  exact fun _ => ⟨fun k e => (nomatch e), fun k e => (nomatch e), fun k e => (nomatch e)⟩

theorem silenceExpiry (idle : Bool) : Statement (.silenceExpiry idle) := by
  exact fun _ => ⟨fun k e => (nomatch e), fun k e => (nomatch e), fun k e => (nomatch e)⟩

theorem fallbackExpiry : Statement (.fallbackExpiry) := by
  exact fun _ => ⟨fun k e => (nomatch e), fun k e => (nomatch e), fun k e => (nomatch e)⟩

theorem driverCut (bits ms : Nat) : Statement (.driverCut bits ms) := by
  intro h
  change (decide (16 < bits) && msOk ms) = true at h
  simp only [Bool.and_eq_true] at h
  exact ⟨fun k e => (nomatch e), fun k e => (nomatch e), fun k e => (by cases e; exact of_decide_eq_true h.2)⟩

theorem driverReenable : Statement (.driverReenable) := by
  exact fun _ => ⟨fun k e => (nomatch e), fun k e => (nomatch e), fun k e => (nomatch e)⟩

theorem lineHeld (bits : Nat) : Statement (.lineHeld bits) := by
  exact fun _ => ⟨fun k e => (nomatch e), fun k e => (nomatch e), fun k e => (nomatch e)⟩

theorem lineHeldCleared (bits : Nat) : Statement (.lineHeldCleared bits) := by
  exact fun _ => ⟨fun k e => (nomatch e), fun k e => (nomatch e), fun k e => (nomatch e)⟩

theorem txAttemptStart : Statement (.txAttemptStart) := by
  exact fun _ => ⟨fun k e => (nomatch e), fun k e => (nomatch e), fun k e => (nomatch e)⟩

theorem txDefer : Statement (.txDefer) := by
  exact fun _ => ⟨fun k e => (nomatch e), fun k e => (nomatch e), fun k e => (nomatch e)⟩

theorem txComplete : Statement (.txComplete) := by
  exact fun _ => ⟨fun k e => (nomatch e), fun k e => (nomatch e), fun k e => (nomatch e)⟩

theorem txCollision : Statement (.txCollision) := by
  exact fun _ => ⟨fun k e => (nomatch e), fun k e => (nomatch e), fun k e => (nomatch e)⟩

theorem branchGrant (b : BranchId) : Statement (.branchGrant b) := by
  exact fun _ => ⟨fun k e => (nomatch e), fun k e => (nomatch e), fun k e => (nomatch e)⟩

theorem loopRetry (b : BranchId) (chars : List LoopChar) : Statement (.loopRetry b chars) := by
  exact fun _ => ⟨fun k e => (nomatch e), fun k e => (nomatch e), fun k e => (nomatch e)⟩

theorem loopTransactionComplete (b : BranchId) (chars : List LoopChar) (ms : Nat) : Statement (.loopTransactionComplete b chars ms) := by
  intro h
  change (replyOk chars && msOk ms) = true at h
  simp only [Bool.and_eq_true] at h
  exact ⟨fun k e => (nomatch e), fun k e => (nomatch e), fun k e => (by cases e; exact of_decide_eq_true h.2)⟩

theorem sweepStart : Statement (.sweepStart) := by
  exact fun _ => ⟨fun k e => (nomatch e), fun k e => (nomatch e), fun k e => (nomatch e)⟩

theorem msenseChange (high : Bool) (ms : Nat) : Statement (.msenseChange high ms) := by
  intro h
  change (msOk ms) = true at h
  exact ⟨fun k e => (nomatch e), fun k e => (nomatch e), fun k e => (by cases e; exact of_decide_eq_true h)⟩

theorem validatedOff (ms : Nat) (idle : Bool) : Statement (.validatedOff ms idle) := by
  intro h
  change (msOk ms) = true at h
  exact ⟨fun k e => (nomatch e), fun k e => (nomatch e), fun k e => (by cases e; exact of_decide_eq_true h)⟩

theorem validatedOn (ms : Nat) : Statement (.validatedOn ms) := by
  intro h
  change (msOk ms) = true at h
  exact ⟨fun k e => (nomatch e), fun k e => (nomatch e), fun k e => (by cases e; exact of_decide_eq_true h)⟩

theorem outageHoldExpiry : Statement (.outageHoldExpiry) := by
  exact fun _ => ⟨fun k e => (nomatch e), fun k e => (nomatch e), fun k e => (nomatch e)⟩

theorem inhibitChange (high : Bool) (ms : Nat) : Statement (.inhibitChange high ms) := by
  intro h
  change (msOk ms) = true at h
  exact ⟨fun k e => (nomatch e), fun k e => (nomatch e), fun k e => (by cases e; exact of_decide_eq_true h)⟩

theorem inhibitValidated (ms : Nat) : Statement (.inhibitValidated ms) := by
  intro h
  change (msOk ms) = true at h
  exact ⟨fun k e => (nomatch e), fun k e => (nomatch e), fun k e => (by cases e; exact of_decide_eq_true h)⟩

theorem inhibitStuck : Statement (.inhibitStuck) := by
  exact fun _ => ⟨fun k e => (nomatch e), fun k e => (nomatch e), fun k e => (nomatch e)⟩

theorem skeyChange (high : Bool) (ms : Nat) : Statement (.skeyChange high ms) := by
  intro h
  change (msOk ms) = true at h
  exact ⟨fun k e => (nomatch e), fun k e => (nomatch e), fun k e => (by cases e; exact of_decide_eq_true h)⟩

theorem skeyValidated (ms : Nat) : Statement (.skeyValidated ms) := by
  intro h
  change (msOk ms) = true at h
  exact ⟨fun k e => (nomatch e), fun k e => (nomatch e), fun k e => (by cases e; exact of_decide_eq_true h)⟩

theorem calendarAdvance : Statement (.calendarAdvance) := by
  exact fun _ => ⟨fun k e => (nomatch e), fun k e => (nomatch e), fun k e => (nomatch e)⟩

theorem stationStatus (src dst : Byte) (args : List Byte) (ms : Nat) : Statement (.stationStatus src dst args ms) := by
  intro h
  change (argsOk args && msOk ms) = true at h
  simp only [Bool.and_eq_true] at h
  exact ⟨fun k e => (nomatch e), fun k e => (nomatch e), fun k e => (by cases e; exact of_decide_eq_true h.2)⟩

theorem group (src dst : Byte) (args : List Byte) (ms : Nat) : Statement (.group src dst args ms) := by
  intro h
  change (argsOk args && msOk ms) = true at h
  simp only [Bool.and_eq_true] at h
  exact ⟨fun k e => (nomatch e), fun k e => (nomatch e), fun k e => (by cases e; exact of_decide_eq_true h.2)⟩

theorem luminaire (src dst : Byte) (args : List Byte) (ms : Nat) : Statement (.luminaire src dst args ms) := by
  intro h
  change (argsOk args && msOk ms) = true at h
  simp only [Bool.and_eq_true] at h
  exact ⟨fun k e => (nomatch e), fun k e => (nomatch e), fun k e => (by cases e; exact of_decide_eq_true h.2)⟩

theorem history (src dst : Byte) (args : List Byte) (ms : Nat) : Statement (.history src dst args ms) := by
  intro h
  change (argsOk args && msOk ms) = true at h
  simp only [Bool.and_eq_true] at h
  exact ⟨fun k e => (nomatch e), fun k e => (nomatch e), fun k e => (by cases e; exact of_decide_eq_true h.2)⟩

theorem peerEntry (src dst : Byte) (args : List Byte) (ms : Nat) : Statement (.peerEntry src dst args ms) := by
  intro h
  change (argsOk args && msOk ms) = true at h
  simp only [Bool.and_eq_true] at h
  exact ⟨fun k e => (nomatch e), fun k e => (nomatch e), fun k e => (by cases e; exact of_decide_eq_true h.2)⟩

theorem eventStatus (src dst : Byte) (args : List Byte) (ms : Nat) : Statement (.eventStatus src dst args ms) := by
  intro h
  change (argsOk args && msOk ms) = true at h
  simp only [Bool.and_eq_true] at h
  exact ⟨fun k e => (nomatch e), fun k e => (nomatch e), fun k e => (by cases e; exact of_decide_eq_true h.2)⟩

theorem counters (src dst : Byte) (args : List Byte) (ms : Nat) : Statement (.counters src dst args ms) := by
  intro h
  change (argsOk args && msOk ms) = true at h
  simp only [Bool.and_eq_true] at h
  exact ⟨fun k e => (nomatch e), fun k e => (nomatch e), fun k e => (by cases e; exact of_decide_eq_true h.2)⟩

theorem setTime (src dst : Byte) (args : List Byte) (ms : Nat) : Statement (.setTime src dst args ms) := by
  intro h
  change (argsOk args && msOk ms) = true at h
  simp only [Bool.and_eq_true] at h
  exact ⟨fun k e => (nomatch e), fun k e => (nomatch e), fun k e => (by cases e; exact of_decide_eq_true h.2)⟩

theorem hold (src dst : Byte) (args : List Byte) (ms : Nat) : Statement (.hold src dst args ms) := by
  intro h
  change (argsOk args && msOk ms) = true at h
  simp only [Bool.and_eq_true] at h
  exact ⟨fun k e => (nomatch e), fun k e => (nomatch e), fun k e => (by cases e; exact of_decide_eq_true h.2)⟩

theorem resume (src dst : Byte) (args : List Byte) (ms : Nat) : Statement (.resume src dst args ms) := by
  intro h
  change (argsOk args && msOk ms) = true at h
  simp only [Bool.and_eq_true] at h
  exact ⟨fun k e => (nomatch e), fun k e => (nomatch e), fun k e => (by cases e; exact of_decide_eq_true h.2)⟩

theorem force (src dst : Byte) (args : List Byte) (ms : Nat) : Statement (.force src dst args ms) := by
  intro h
  change (argsOk args && msOk ms) = true at h
  simp only [Bool.and_eq_true] at h
  exact ⟨fun k e => (nomatch e), fun k e => (nomatch e), fun k e => (by cases e; exact of_decide_eq_true h.2)⟩

theorem cancel (src dst : Byte) (args : List Byte) (ms : Nat) : Statement (.cancel src dst args ms) := by
  intro h
  change (argsOk args && msOk ms) = true at h
  simp only [Bool.and_eq_true] at h
  exact ⟨fun k e => (nomatch e), fun k e => (nomatch e), fun k e => (by cases e; exact of_decide_eq_true h.2)⟩

theorem clearEvents (src dst : Byte) (args : List Byte) (ms : Nat) : Statement (.clearEvents src dst args ms) := by
  intro h
  change (argsOk args && msOk ms) = true at h
  simp only [Bool.and_eq_true] at h
  exact ⟨fun k e => (nomatch e), fun k e => (nomatch e), fun k e => (by cases e; exact of_decide_eq_true h.2)⟩

theorem clearIsolation (src dst : Byte) (args : List Byte) (ms : Nat) : Statement (.clearIsolation src dst args ms) := by
  intro h
  change (argsOk args && msOk ms) = true at h
  simp only [Bool.and_eq_true] at h
  exact ⟨fun k e => (nomatch e), fun k e => (nomatch e), fun k e => (by cases e; exact of_decide_eq_true h.2)⟩

theorem probe (src dst : Byte) (args : List Byte) (ms : Nat) : Statement (.probe src dst args ms) := by
  intro h
  change (argsOk args && msOk ms) = true at h
  simp only [Bool.and_eq_true] at h
  exact ⟨fun k e => (nomatch e), fun k e => (nomatch e), fun k e => (by cases e; exact of_decide_eq_true h.2)⟩

theorem restart (src dst : Byte) (args : List Byte) (ms : Nat) : Statement (.restart src dst args ms) := by
  intro h
  change (argsOk args && msOk ms) = true at h
  simp only [Bool.and_eq_true] at h
  exact ⟨fun k e => (nomatch e), fun k e => (nomatch e), fun k e => (by cases e; exact of_decide_eq_true h.2)⟩

theorem restartTaken : Statement (.restartTaken) := by
  exact fun _ => ⟨fun k e => (nomatch e), fun k e => (nomatch e), fun k e => (nomatch e)⟩

theorem memoryGrant : Statement (.memoryGrant) := by
  exact fun _ => ⟨fun k e => (nomatch e), fun k e => (nomatch e), fun k e => (nomatch e)⟩

theorem flushComplete : Statement (.flushComplete) := by
  exact fun _ => ⟨fun k e => (nomatch e), fun k e => (nomatch e), fun k e => (nomatch e)⟩

theorem historyLineWritten : Statement (.historyLineWritten) := by
  exact fun _ => ⟨fun k e => (nomatch e), fun k e => (nomatch e), fun k e => (nomatch e)⟩

theorem fillComplete (answer : MemAnswer) : Statement (.fillComplete answer) := by
  exact fun _ => ⟨fun k e => (nomatch e), fun k e => (nomatch e), fun k e => (nomatch e)⟩

theorem reportOffer : Statement (.reportOffer) := by
  exact fun _ => ⟨fun k e => (nomatch e), fun k e => (nomatch e), fun k e => (nomatch e)⟩

theorem rxFrameDiscarded (chars : List Byte) : Statement (.rxFrameDiscarded chars) := by
  exact fun _ => ⟨fun k e => (nomatch e), fun k e => (nomatch e), fun k e => (nomatch e)⟩

theorem unknownServiceCode (src dst : Byte) (kind : ServiceKind) (payload : List Byte) (ms : Nat) : Statement (.unknownServiceCode src dst kind payload ms) := by
  intro h
  change (payloadOk payload && msOk ms) = true at h
  simp only [Bool.and_eq_true] at h
  exact ⟨fun k e => (nomatch e), fun k e => (nomatch e), fun k e => (by cases e; exact of_decide_eq_true h.2)⟩

theorem powerLoss : Statement (.powerLoss) := by
  exact fun _ => ⟨fun k e => (nomatch e), fun k e => (nomatch e), fun k e => (nomatch e)⟩

end Sys2Proof.Laws.InRange
end

