-- ==== Sys2Proof/Tests/Slice0.lean ====
section
/-! SUPPORT. The model's own tests: the well-formedness checks, the worked cases of the manual, one step of each command,
and for each statement a state and operands that meet what it asks for. -/

namespace Sys2Proof.Tests

set_option Elab.async false

open Sys2Proof.Machine

/-! ### A small station -/

def after (c : Instr) (s : State) : State :=
  match exec c s with
  | .next t => t
  | .fault _ => s
  | .refused _ => s

/-- The manual's defaults: interval 365 days, early allowance 14, 180 minutes, 24 hours. -/
def definition (members : List Nat) : GroupDef :=
  { members := members, home := 100 + members.getD 0 0, neighbours := [], minutes := 180, rechargeHours := 24, interval := 365, early := 14 }

def group (members : List Nat) (st : GState) : Group := { Group.empty with defn := definition members, state := st }

def figures : Figures :=
  { Figures.empty with
    address := 37, beacon := 5, cap := 300, reducedLimit := 2, silence := 5, isolationLimit := 2, fallback := true,
    fallbackDays := 1, grace := 30, sweepPeriod := 10, aBase := 0, aLimit := 9, bBase := 10, bLimit := 19,
    window := List.replicate 168 true, authorised := [{ on := true, address := 224#8 }] }

/-- A station at address 37, COORDINATING, mains ON, group 3 with members 0 and 1 and group 5 with members 2 and 12. -/
def base : State :=
  { State.reset with
    clock := { State.reset.clock with seconds := 1000 }
    calendar := { minutes := 2104500, seconds := 0, valid := true, oscStop := false }
    inputs := { State.reset.inputs with mains := .on, inhibit := .inactive }
    sup :=
      { mode := .coordinating, reason := .noReason, address := some 37, listen := none, silence := some 300,
        fallback := none, clear := some 86400, isolations := 0 }
    figures := figures
    groups :=
      [Group.empty, Group.empty, Group.empty, group [0, 1] .idle, Group.empty, group [2, 12] .idle] ++
        List.replicate 18 Group.empty
    lums :=
      (List.range 128).map (fun n =>
        { Lum.empty with branch := if n < 10 then some .branchA else if n < 20 then some .branchB else none })
    beacon := some 5
    service := { State.reset.service with authorised := figures.authorised, key := .active }
    line := { State.reset.line with draw := some (drawSeed 37) } }

/-- Group `g` in another form. -/
def withGroup (g : Nat) (f : Group → Group) : State := base.modGroup g f

def claimed (phase : Phase) (hold : Option Hold) (refresh : Option Nat) : Option ClaimRecord :=
  some { phase := phase, hold := hold, refresh := refresh }

/-- Group 3 PROPOSED with its hold run out. -/
def proposed : State :=
  withGroup 3 (fun gr =>
    { gr with state := .proposed, claimUrgency := 373, claim := claimed .proposed (some (.running 30)) none })

/-- Group 3 TESTING since tick second 880, two minutes ago: member 0 DISCHARGING, member 1 PENDING_START. -/
def testing : State :=
  let s := withGroup 3 (fun gr =>
    { gr with
      state := .testing, claimUrgency := 373, claim := claimed .testing none (some 0),
      testStart := some { tick := 880000, minute := 2104498 }, round := some 2 })
  (s.modLum 0 (fun l => { l with test := .discharging, ownStart := some 880000 })).modLum 1 (fun l =>
    { l with test := .pendingStart, startCount := 2 })

/-- Group 3 RECOVERING with its recharge just run out. -/
def recovering : State :=
  withGroup 3 (fun gr =>
    { gr with
      state := .recovering, claim := claimed .recovering none (some 0), recharge := some 0, rechargeDue := true,
      lastTested := some 2104000 })

/-- A full entry for group 2 of station 42 that conflicts with nothing here. -/
def peer : Entry :=
  { station := 42, group := 2, phase := .proposed, weight := 105, age := 0, mask := [], rechargeEnded := false,
    full := some { urgency := 400, home := 700, neighbours := [], remaining := 1620 } }

def withMode (mode : Mode) (s : State) : State := { s with sup := { s.sup with mode := mode } }

def withCells (k : Nat) (f : EventCell → EventCell) (s : State) : State := { s with events := s.events.modCell k f }

/-- The status of the REPLY last placed in the queue, and its data. -/
def answer (s : State) : Option (Status × List Byte) :=
  match s.line.waiting.getLast? with
  | some (.reply r) => some (r.status, r.data)
  | _ => none

/-- The echo of the REPLY last placed in the queue. -/
def echo (s : State) : List Byte :=
  match s.line.waiting.getLast? with
  | some (.reply r) => r.echo
  | _ => []

/-! ### Well-formedness: one ill-formed command for each check -/

theorem test_wf_group : (Instr.holdExpiry 24 0).wellFormed = false := by decide
theorem test_wf_luminaire : (Instr.endInstant 128 0).wellFormed = false := by decide
theorem test_wf_ms : (Instr.validatedOn 1000).wellFormed = false := by decide
theorem test_wf_payload : (Instr.claimReceived 42#8 0#8 (List.replicate 41 0#8) 0).wellFormed = false := by decide
theorem test_wf_args : (Instr.restart 224#8 37#8 (List.replicate 40 0#8) 0).wellFormed = false := by decide
theorem test_wf_reply : (Instr.loopRetry .branchA (List.replicate 6 { value := 0#8, stop := true })).wellFormed = false := by decide
theorem test_wf_answer : (Instr.groupRecordRead (.rewritten [0#8]) 0).wellFormed = false := by decide
theorem test_wf_kind : (Instr.otherFrameReceived 42#8 0#8 0x02#8 0).wellFormed = false := by decide
theorem test_wf_broken : (Instr.rxFrameBroken .oversize (List.replicate 46 0#8)).wellFormed = false := by decide
theorem test_wf_discarded : (Instr.rxFrameDiscarded (List.replicate 5 0#8)).wellFormed = false := by decide
theorem test_wf_cut : (Instr.driverCut 16 0).wellFormed = false := by decide
theorem test_wf_held : (Instr.lineHeld 63).wellFormed = false := by decide
theorem test_wf_cleared : (Instr.lineHeldCleared 11).wellFormed = false := by decide

/-! ### The words of the opcode table -/

/-- No row has bits, so no word is a command and the queue stays as it is. -/
theorem test_no_word : decodeTableWord 16 0x1234 = none ∧ State.reset.withFetchWord 16 0x1234 = State.reset := ⟨rfl, rfl⟩

/-! ### The arithmetic of the manual, at its worked cases -/

/-- Section 1.11, Urgency of an overdue group. -/
theorem test_urgency_overdue : urgencyAt (definition []) 370 1 false = 373 := by decide
theorem test_urgency_forced :
    urgencyAt (definition []) 370 1 true = 512 ∧ urgencyAt (definition []) 300 1 true = 544 := by decide
/-- Section 1.11, Urgency at its limits. -/
theorem test_urgency_limits :
    urgencyAt (definition []) 4095 0 false = 1023 ∧ urgencyAt { definition [] with early := 60 } 305 0 false = 4 ∧
      urgencyAt (definition []) 365 0 false = 256 ∧ urgencyAt { definition [] with early := 0 } 366 0 false = 512 ∧
      urgencyAt { definition [] with early := 0 } 368 0 false = 1023 := by decide
theorem test_age : ageDays (370 * 1440 + 600) (some 0) = 370 ∧ ageDays 1999000 (some 2000000) = 0 ∧ ageDays 5 none = 4095 := by
  decide
/-- Section 1.11, Withdrawal backoff. -/
theorem test_backoff : backoffMinutes 373 37 = 17 ∧ backoffMinutes 373 42 = 14 ∧ backoffMinutes 4 7 = 24 := by decide
/-- Section 1.11, Window across the end of the week: hours 167, 0, 1 and 2, and the same with hour 0 closed. -/
theorem test_window :
    windowOpen ((List.range 168).map (fun h => decide (h = 167 ∨ h ≤ 2))) 10030 180 = true ∧
      windowOpen ((List.range 168).map (fun h => decide (h = 167 ∨ h = 1 ∨ h = 2))) 10030 180 = false := by
  decide +kernel
/-- The table of R83, and its quotient that is not whole. -/
theorem test_recharge :
    earlyRecharge 24 180 0 = 60 ∧ earlyRecharge 24 180 2 = 60 ∧ earlyRecharge 24 180 47 = 376 ∧
      earlyRecharge 24 180 179 = 1432 ∧ earlyRecharge 24 180 182 = 1440 ∧ earlyRecharge 12 90 31 = 248 ∧
      earlyRecharge 10 180 70 = 234 := by decide
/-- The table of R116, and the worked outage of Chapter 6: 5650 s is 95 minutes. -/
theorem test_outage :
    outageDuration 5650 = 95 ∧ outageHoldAfter 0 95 = 760 ∧ outageHoldAfter 0 20 = 160 ∧ outageHoldAfter 0 400 = 2880 := by
  decide
/-- The Examples of R58: station 42 with full entries of 40 and 70. -/
def shares (weight placeholders : Nat) (fulls : List Nat) : List Nat :=
  (reweigh 42 weight
    (fulls.map (fun w => { peer with weight := w }) ++ List.replicate placeholders { peer with full := none, weight := 0 })).map
      Entry.weight
theorem test_shares :
    shares 150 1 [40, 70] = [40, 70, 40] ∧ shares 185 2 [40, 70] = [40, 70, 38, 37] ∧ shares 100 1 [40, 70] = [40, 70, 0] ∧
      shares 400 2 [] = [128, 128] := by decide
/-- Chapter 6: minute 2,104,500 lies in hour 131 of the week. -/
theorem test_hour_of_week : base.hourOfWeek = 131 := by decide
/-- The published check values of the two codes over the characters 1 to 9. -/
theorem test_check_codes :
    crc16 ((List.range 9).map (fun i => byte (0x31 + i))) = 0x29B1#16 ∧
      crc8 ((List.range 9).map (fun i => byte (0x31 + i))) = 0xF4#8 := by decide +kernel
/-- R24: a group in zone 100 with neighbour 101 against one in zone 101; zone 0 matches nothing. -/
theorem test_conflict :
    zonesConflict 100 [101] 101 [] = true ∧ zonesConflict 100 [] 101 [] = false ∧ zonesConflict 100 [0] 0 [] = false := by
  decide
/-- R25: higher urgency, then lower address, then lower group. -/
theorem test_precedence :
    precedes 400 42 2 373 37 3 = true ∧ precedes 373 37 3 373 42 2 = true ∧ precedes 373 37 3 373 37 2 = false := by decide
/-- Section 9.2: group record bytes, with the time NEVER and no first failing luminaire. -/
theorem test_record_bytes :
    (group [] .idle).recordBytes =
      [0x01#8, 0xFF#8, 0xFF#8, 0xFF#8, 0xFF#8, 0x00#8, 0x00#8, 0x00#8, 0x00#8, 0x00#8, 0xFF#8, 0xFF#8, 0xFF#8, 0xFF#8,
        0xFF#8] := by decide

/-! ### One step of each command -/

/-- R126, R178: a power-on reset leaves LOADING, an empty table, and the calendar as it runs on. -/
theorem test_power_on_reset :
    let t := after .powerOnReset { base with powered := false, sup := { base.sup with isolations := 3 } }
    t.sup.mode = .loading ∧ t.sup.isolations = 0 ∧ t.group 3 = Group.empty ∧ t.calendar = base.calendar ∧ t.now = 0 := by
  decide +kernel
theorem test_reset_n :
    let t := after .resetN { base with sup := { base.sup with isolations := 3 } }
    t.sup.mode = .loading ∧ t.sup.isolations = 0 ∧ t.line.draw = none := by decide +kernel
/-- Chapter 6: the latch found set at the start of LOADING clears the counts and time-valid. -/
theorem test_oscillator_stop :
    let t := after .oscillatorStop base
    t.calendar.oscStop = true ∧ t.calendar.minutes = 2104500 ∧ (after .resetN t).calendar.minutes = 0 ∧
      (after .resetN t).calendar.valid = false := by decide +kernel

/-- A configuration block of zeros: every figure is brought up to its least value, and luminaire 0, which every group
names, is kept by group 0 (R1, R154). -/
def loading (next : LoadStep) (figs : Option Figures) (s : State) : State :=
  { s with sup := { s.sup with mode := .loading, address := none }, loader := { next := next, figures := figs, restored := [] } }
theorem test_config_block_read :
    let t := goodConfig [] State.reset
    t.line.rate = .r2400 ∧ t.inputs.validation = 1 ∧ (t.group 0).defn.members = [0] ∧
      (t.group 1).defn.members = [] ∧ (t.group 0).defn.home = 1 ∧ (t.group 0).defn.minutes = 30 := by decide +kernel
/-- Section 9.2: seven zones of ten bits, here 100 = 0001100100b and 101 = 0001100101b and five unused. -/
theorem test_zones :
    let d := GroupDef.read ([0x00#8, 0x02#8, 0x01#8, 0x00#8, 0x19#8, 0x06#8, 0x50#8] ++ List.replicate 11 0#8) 0 []
    d.home = 100 ∧ d.neighbours = [101] := by decide +kernel
/-- R154: a block whose CRC-16 fails gives no figures, and the load goes on. -/
theorem test_config_block_bad (bytes : List Byte) (h : crc16Good bytes = false) :
    configRead bytes State.reset = { State.reset with loader := { State.reset.loader with next := .groupRecord 0 } } := by
  unfold configRead
  rw [h]
  rfl
/-- R156: a record stored as TESTING comes back RECOVERING, with one more failed attempt and a full recharge. -/
def groupRecord (phase : Nat) : List Byte :=
  withCrc16 ([byte phase] ++ bytesBE 4 2104000 ++ [0x01#8, 0x02#8, 0x00#8] ++ bytesBE 2 90 ++ bytesBE 4 2104000 ++ [0x05#8] ++
    List.replicate 15 0#8)
def loadingGroup (g : Nat) : State :=
  loading (.groupRecord g) (some figures)
    { State.reset with groups := State.reset.groups.modify 3 (fun gr => { gr with defn := definition [0, 1] }) }
theorem test_group_record_read :
    let gr := (after (.groupRecordRead (.rewritten (groupRecord 2)) 0) (loadingGroup 3)).group 3
    gr.state = .recovering ∧ gr.lastResult = some .abortedRestart ∧ gr.fails = 3 ∧ gr.recharge = some 1440 ∧
      gr.lastTested = some 2104000 := by decide +kernel
theorem test_group_record_recovering :
    let gr := (after (.groupRecordRead (.rewritten (groupRecord 3)) 0) (loadingGroup 3)).group 3
    gr.state = .recovering ∧ gr.lastResult = some .pass ∧ gr.recharge = some 90 ∧ gr.firstFailing = some 5 := by
  decide +kernel
theorem test_luminaire_record_read :
    let t := after (.luminaireRecordRead .absent 0) (loading (.lumRecord 5) (some figures) State.reset)
    t.loader.next = .lumRecord 6 ∧ (t.lum 5).dirty = true ∧ (t.lum 5).record = LumRecord.empty := by decide +kernel
/-- R126, R127: the last record read ends LOADING. -/
theorem test_end_of_loading :
    (after (.luminaireRecordRead .absent 0) (loading (.lumRecord 127) none State.reset)).sup.address = some 223 ∧
      (after (.luminaireRecordRead .absent 0) (loading (.lumRecord 127) none State.reset)).memoryReleased = true ∧
      (after (.luminaireRecordRead .absent 0) (loading (.lumRecord 127) (some figures) State.reset)).sup.listen = some 660 := by
  decide +kernel
theorem test_tick_second :
    let t := after .tickSecond { base with clock := { base.clock with secondOfMinute := 59, ms := 7 } }
    t.clock = { seconds := 1001, ms := 0, secondOfMinute := 0, minuteDue := true, passDue := true } ∧
      t.sup.silence = some 299 ∧ t.sup.clear = some 86399 := by decide +kernel
/-- R87, R159: a recharge that reaches a whole hour marks its record; one that reaches 0 is complete. -/
def minute (s : State) : State := { s with clock := { s.clock with minuteDue := true } }
def recharging (k : Nat) : State := recovering.modGroup 3 (fun gr => { gr with recharge := some k, rechargeDue := false })
theorem test_minute_tick :
    ((after .minuteTick (minute (recharging 61))).group 3).recharge = some 60 ∧
      ((after .minuteTick (minute (recharging 61))).group 3).dirty = true ∧
      ((after .minuteTick (minute (recharging 1))).group 3).rechargeDue = true := by decide +kernel

/-- Section 1.11, One scheduling pass. (The weights there exceed the 128 addresses, so here some members are shared.) -/
def contest : State :=
  let due (home : Nat) (members : List Nat) (f : Group → Group) : Group :=
    f
      { group members .due with
        defn := { definition members with home := home }, lastTested := some (2104500 - (370 * 1440 + 600)), fails := 1 }
  { base with
    clock := { base.clock with passDue := true }
    figures := { base.figures with aLimit := 127 }
    lums := List.replicate 128 { Lum.empty with branch := some .branchA }
    view := [peer, { peer with group := 3 }]
    groups :=
      (((((List.replicate 24 Group.empty).set 3 (due 103 (List.range 20) id)).set 5
        { group (List.range 30) .recovering with claim := claimed .recovering none none, recharge := some 60 }).set 8
        (due 108 (List.range 64) (fun gr => { gr with lastTested := some 2104500, fails := 0, forced := true }))).set 11
        (due 111 (List.range 18) id)).set 14 (due 114 (List.range 16) (fun gr => { gr with held := true })) }
theorem test_scheduling_pass :
    let t := after .schedulingPass contest
    (t.group 3).state = .proposed ∧ (t.group 3).claimUrgency = 373 ∧
      [3, 5, 8, 11, 14].map (fun g => (t.group g).note) = [.admitted, .inClaim, .load, .outranked, .held] := by
  decide +kernel
theorem test_backoff_expiry : after (.backoffExpiry 3) proposed = proposed := by decide +kernel
/-- R40, R41: entry into TESTING, with both members PENDING_START and their STARTs asked for. -/
theorem test_hold_expiry :
    let t := after (.holdExpiry 3 0) proposed
    (t.group 3).state = .testing ∧ (t.lum 1).request = some .start ∧ (t.lum 1).startCount = 1 ∧
      t.line.waiting =
        [.claim 3 { phase := .testing, urgency := 373, weight := 2, remaining := 1620, home := 100, neighbours := [] }] := by
  decide +kernel
/-- R40, R16: a placeholder that conflicts with group 3 has it withdrawn, with a backoff of 17 minutes (section 1.11). -/
def barred : State := { proposed with view := [{ peer with mask := [3], full := none }] }
theorem test_hold_withdraws :
    let t := after (.holdExpiry 3 0) barred
    (t.group 3).state = .due ∧ (t.group 3).backoff = 17 ∧ t.line.waiting = [.release 3 .aborted] := by decide +kernel
theorem test_poll_round :
    let t := after (.pollRound 3 0) testing
    (t.lum 0).request = some .probe ∧ (t.lum 1).startCount = 3 ∧ (t.lum 1).request = some .start ∧
      (t.group 3).round = some 3 := by decide +kernel
/-- R76, R80: the last member ends its 180 minutes. -/
def ending : State :=
  { testing.modLum 1 (fun l => { l with test := .passed }) with clock := { base.clock with seconds := 880 + 10800 } }
theorem test_end_instant :
    let t := after (.endInstant 0 0) ending
    (t.group 3).lastResult = some .pass ∧ (t.group 3).recharge = some 1440 ∧ (t.group 3).lastTested = some 2104498 ∧
      (t.lum 0).achieved = 180 ∧ t.mem.appender.map HistLine.lum = [0, 1] := by decide +kernel
theorem test_refresh_expiry :
    (after (.refreshExpiry 3 0) testing).line.waiting =
      [.claim 3 { phase := .testing, urgency := 373, weight := 2, remaining := 1618, home := 100, neighbours := [] }] := by
  decide +kernel
theorem test_recharge_complete :
    let t := after (.rechargeComplete 3 false) recovering
    (t.group 3).state = .idle ∧ t.line.waiting = [.release 3 .complete] := by decide +kernel
theorem test_beacon_countdown_expiry :
    let t := after .beaconCountdownExpiry { base with beacon := some 0 }
    t.beacon = some 5 ∧ t.line.waiting = [.beacon] := by decide +kernel

/-- A CLAIM of station 42 for its group 7, PROPOSED with urgency 400, weight 18, remaining 1620, home zone 211 and
neighbour 100. -/
def claimPayload (phase : Nat) : List Byte :=
  [0x07#8, byte phase, 0x01#8, 0x90#8, 0x12#8, 0x06#8, 0x54#8, 0x00#8, 0xD3#8, 0x01#8, 0x00#8, 0x64#8]
theorem test_claim_received :
    let t := after (.claimReceived 42#8 0#8 (claimPayload 1) 0) proposed
    t.view.map Entry.mask = [[3]] ∧ (t.group 3).state = .due ∧ (t.group 3).backoff = 17 ∧
      t.line.waiting = [.release 3 .withdrawn] := by decide +kernel
/-- R46: a TESTING claim with precedence ends an own test. -/
theorem test_claim_ends_test :
    let t := after (.claimReceived 42#8 0#8 (claimPayload 2) 0) testing
    (t.group 3).lastResult = some .abortedConflict ∧ (t.group 3).recharge = some 60 ∧ (t.lum 0).endOwed = true ∧
      (t.group 3).claim = claimed .recovering none (some 60) ∧ (t.lum 0).record.achieved = 2 ∧
      (t.lum 1).record.result = some .aborted ∧ (t.events.cell 7).raw = true ∧
      t.line.waiting =
        [.claim 3 { phase := .recovering, urgency := 373, weight := 2, remaining := 60, home := 100, neighbours := [] }] := by
  decide +kernel
theorem test_release_received :
    (after (.releaseReceived 42#8 0#8 [0x02#8, 0x01#8] 0) { base with view := [peer] }).view = [] := by decide +kernel
/-- Chapter 6: the BEACON of station 61 is adopted at minute 2,104,500 = 00201CB4h; it names group 1. -/
def beaconPayload : List Byte :=
  [0x02#8, 0x01#8, 0x00#8, 0x20#8, 0x1C#8, 0xB4#8, 0x00#8, 0x1E#8, 0x01#8, 0x01#8, 0x02#8]
def unset : State := { base with calendar := { base.calendar with minutes := 7, valid := false } }
theorem test_beacon_received :
    let t := after (.beaconReceived 61#8 0#8 beaconPayload 0) unset
    t.calendar.minutes = 2104500 ∧ t.calendar.valid = true ∧ t.view.map Entry.weight = [30] ∧
      t.view.map Entry.mask = [[3, 5]] := by decide +kernel
/-- The view with 47 entries has room, with 48 it is full; a key that is held is updated in either. -/
def crowd (k : Nat) : State :=
  { proposed with view := (List.range k).map (fun i => { peer with station := 100 + i / 24, group := i % 24 }) }
/-- R59, R36: the placeholder that finds room withdraws a PROPOSED group, and the one that finds none is not judged. -/
theorem test_beacon_room :
    let t := after (.beaconReceived 42#8 0#8 beaconPayload 0) (crowd 47)
    let u := after (.beaconReceived 42#8 0#8 beaconPayload 0) (crowd 48)
    ((t.group 3).state = .due ∧ t.view.length = 48 ∧ t.overflow = none) ∧ (u.group 3).state = .proposed ∧
      u.view = (crowd 48).view ∧ u.overflow = some 300 ∧ (u.events.cell 17).raw = true := by decide +kernel
/-- A QUERY or COMMAND that the responder takes is its own row's step (log 31). -/
theorem test_query_elsewhere : after (.otherFrameReceived 224#8 37#8 0x10#8 0) base = base := by decide +kernel
theorem test_other_frame_received :
    (after (.otherFrameReceived 42#8 0#8 0x12#8 0) { base with sup := { base.sup with silence := some 9 } }).sup.silence =
      some 300 := by decide +kernel
theorem test_rx_frame_broken :
    (after (.rxFrameBroken .stopDominant [42#8]) base).line.crcErrors = 1 ∧
      (after (.rxFrameBroken .stopDominant [42#8]) { base with line := { base.line with crcErrors := 255 } }).line.crcErrors =
        255 := by decide +kernel
theorem test_entry_age_out :
    (after .entryAgeOut { base with view := [{ peer with age := 299 }, { peer with group := 3, age := 300 }] }).view =
      [{ peer with age := 299 }] := by decide +kernel
theorem test_peer_recharge_end :
    (after .peerRechargeEnd { base with view := [peer, { peer with group := 3, rechargeEnded := true }] }).view = [peer] := by
  decide +kernel
theorem test_overflow_hold_expiry : (after .overflowHoldExpiry { base with overflow := some 0 }).overflow = none := by
  decide +kernel

/-! ### The supervisor and the line -/

def listening : State := { base with sup := { base.sup with mode := .listening, listen := some 0, clear := none } }
theorem test_listen_expiry :
    let t := after .listenExpiry listening
    t.sup.mode = .coordinating ∧ t.sup.clear = some 86400 ∧ t.runPattern = .steady ∧ t.lamps.runSince = t.now := by
  decide +kernel
theorem test_clear_timer_expiry :
    (after .clearTimerExpiry { base with sup := { base.sup with clear := some 0, isolations := 3 } }).sup.isolations = 0 := by
  decide +kernel
/-- R134 to R136: the first silence isolates the station; with the limit of 2 reached, the second falls back. -/
def silent (k : Nat) : State := { base with sup := { base.sup with silence := some 0, isolations := k } }
theorem test_silence_expiry :
    (after (.silenceExpiry false) (silent 0)).sup.mode = .isolated ∧ (after (.silenceExpiry false) (silent 0)).sup.reason = .silence ∧
      (after (.silenceExpiry false) (silent 1)).sup.mode = .standalone ∧ (after (.silenceExpiry false) (silent 1)).sup.isolations = 2 := by
  decide +kernel
def isolated : State :=
  { base with
    sup :=
      { mode := .isolated, reason := .silence, address := some 37, listen := none, silence := some 0,
        fallback := some 86400, clear := none, isolations := 1 } }
theorem test_fallback_expiry :
    (after .fallbackExpiry isolated).sup.mode = .standalone ∧
      (after .fallbackExpiry { isolated with sup := { isolated.sup with fallback := some 86399 } }).sup.mode = .isolated := by
  decide +kernel
theorem test_driver_cut :
    let t := after (.driverCut 17 0) testing
    t.line.cut = some 60 ∧ (t.group 3).lastResult = some .abortedLine ∧ t.sup.mode = .isolated ∧ t.sup.reason = .driver := by
  decide +kernel
theorem test_driver_reenable :
    let t := after .driverReenable
      { isolated with sup := { isolated.sup with reason := .driver, fallback := none }, line := { base.line with cut := some 0 } }
    t.line.cut = none ∧ t.sup.mode = .listening ∧ t.sup.listen = some 660 := by decide +kernel
theorem test_line_held : (after (.lineHeld 64) base).line.held = true ∧ (after (.lineHeld 63) base).line.held = false := by
  decide +kernel
theorem test_line_held_cleared :
    (after (.lineHeldCleared 12) { base with line := { base.line with held := true } }).line.held = false := by
  decide +kernel
/-- R146: a CLAIM goes before a BEACON that was offered earlier. Section 2.3: its payload, with header and CRC-16. -/
def claimFrame : TxFrame :=
  .claim 3 { phase := .proposed, urgency := 373, weight := 20, remaining := 1620, home := 210, neighbours := [211, 305] }
def waiting (l : List TxFrame) (s : State) : State := { s with line := { s.line with waiting := l } }
theorem test_tx_attempt_start :
    (after .txAttemptStart (waiting [.beacon, claimFrame] base)).line.current.map (fun c => (c.attempt, c.window, c.chars)) =
      some
        (1, 16,
          withCrc16
            [0x25#8, 0x00#8, 0x02#8, 0x0E#8, 0x03#8, 0x01#8, 0x01#8, 0x75#8, 0x14#8, 0x06#8, 0x54#8, 0x00#8, 0xD2#8, 0x02#8,
              0x00#8, 0xD3#8, 0x01#8, 0x31#8]) := by decide +kernel
/-- Section 8.9, Two stations in one slot: the data bits of addresses 25h and 2Ah in line order, 0 dominant, each between a
dominant start bit and a recessive stop bit. -/
theorem test_characters :
    let bits (l : List Nat) : List LineLevel := l.map (fun b => if b = 0 then .dominant else .recessive)
    charLevels 0x25#8 = bits [0, 1, 0, 1, 0, 0, 1, 0, 0, 1] ∧ charLevels 0x2A#8 = bits [0, 0, 1, 0, 1, 0, 1, 0, 0, 1] := by
  decide +kernel
/-- R141: from the seed 2525h of address 37, eight shifts by hand take in the bits 0, 0, 1, 1, 1, 1, 0, 0. -/
theorem test_draw : drawSeed 37 = 0x2525#16 ∧ drawNext 0x2525#16 = 0x253C#16 := by decide
/-- R148: the slot wait that the start bit ended had its draw; the next is made when the line is idle again. -/
theorem test_tx_defer :
    let t := after .txDefer (waiting [.beacon] base)
    t.line.draw = some 0x253C#16 ∧ t.line.slot = none := by
  decide +kernel
def sending (attempt : Nat) (f : TxFrame) (s : State) : State :=
  { s with line := { s.line with current := some { frame := f, attempt := attempt, window := 16, sending := true, chars := [] } } }
theorem test_tx_complete :
    let t := after .txComplete
      (sending 1 claimFrame (proposed.modGroup 3 (fun gr => { gr with claim := claimed .proposed (some .awaiting) none })))
    (t.group 3).claim = claimed .proposed (some (.running 0)) none ∧ t.line.current = none := by decide +kernel
/-- Section 8.9: after a first collision the window is 32. R148: the eighth loses the frame. -/
theorem test_tx_collision :
    (after .txCollision (sending 1 claimFrame proposed)).line.current.map (fun c => (c.attempt, c.window)) = some (2, 32) ∧
      (after .txCollision (sending 8 claimFrame proposed)).line.current = none ∧
      ((after .txCollision (sending 8 claimFrame proposed)).group 3).state = .due := by decide +kernel
/-- Section 8.9, A queue at its limit. -/
def limitClaim (g : Nat) : TxFrame :=
  .claim g { phase := .recovering, urgency := 0, weight := 1, remaining := 60, home := 1, neighbours := [] }
def lampReport : Report := { event := 10, detail := lumDetail 12, minutes := 0, console := 230#8 }
def atLimit : State :=
  waiting ([0, 1, 2, 4, 5, 6, 7, 9, 10, 12].map limitClaim ++ [.beacon, .event lampReport]) base
def reply230 : TxFrame := .reply { console := 230#8, status := .ok, echo := [], data := [], restart := false }
theorem test_queue_limit :
    let t := offer (limitClaim 4) (offer reply230 (offer (limitClaim 16) (offer (limitClaim 15) (offer (limitClaim 13) atLimit))))
    t.line.waiting = [0, 1, 2, 4, 5, 6, 7, 9, 10, 12, 13, 15].map limitClaim ∧ t.line.backlog = [limitClaim 16] ∧
      (t.events.cell 23).detail = eventDetail 10 := by decide +kernel

/-! ### The loop -/

def asking (n : Nat) (r : Request) (s : State) : State := s.modLum n (fun l => { l with request := some r })
/-- R96: START to luminaire 1 with 195 self-end minutes; PROBE to luminaire 0 goes first (R72). -/
theorem test_branch_grant :
    (after (.branchGrant .branchA) (asking 1 .start testing)).loop.a.txn.map LoopTxn.chars =
        some [0x01#8, 0x02#8, 0xC3#8, crc8 [0x01#8, 0x02#8, 0xC3#8]] ∧
      (after (.branchGrant .branchA) { asking 1 .start testing with pins := base.pins }).loop.a.lastServed = some 3 := by
  decide +kernel
def flying (n : Nat) (c : LoopCommand) (source : LoopSource) (attempt : Nat) (s : State) : State :=
  { s with
    loop :=
      { s.loop with a := { s.loop.a with txn := some { lum := n, command := c, source := source, attempt := attempt, chars := [] } } } }
theorem test_loop_retry :
    (after (.loopRetry .branchA []) (flying 1 .start .test 1 testing)).loop.a.txn.map LoopTxn.attempt = some 2 := by
  decide +kernel
/-- R73: a good reply, in test, starts the member's discharge. -/
def goodBytes (n status : Nat) : List Byte :=
  let body := [byte n, byte status, 0x78#8, 0x00#8]
  body ++ [crc8 body]
def goodChars (n status : Nat) : List LoopChar := (goodBytes n status).map (fun b => { value := b, stop := true })
/-- The same with the stop bit of the last character not at the idle level (R97). -/
def badStop (n status : Nat) : List LoopChar :=
  ((goodBytes n status).zip [true, true, true, true, false]).map (fun p => { value := p.1, stop := p.2 })
theorem test_loop_transaction_complete :
    let t := after (.loopTransactionComplete .branchA (goodChars 1 7) 50) (flying 1 .start .test 1 testing)
    (t.lum 1).test = .discharging ∧ (t.lum 1).ownStart = some 1000050 ∧ (t.lum 1).presence = .present ∧ t.loop.a.txn = none ∧
      ((after (.loopTransactionComplete .branchA (badStop 1 7) 50) (flying 1 .start .test 2 testing)).lum 1).misses = 1 := by
  decide +kernel
/-- Section 5.11: the completion at 65 of the second failing sweep takes the branch DOWN, with detail 65. -/
def failing (lums : List Nat) (n : Nat) : State :=
  let s := flying n .probe .sweep 2 base
  { s with loop := { s.loop with a := { s.loop.a with window := lums.map (fun k => { lum := k, good := decide (k = 6) }) } } }
theorem test_branch_lost :
    (after (.loopTransactionComplete .branchA [] 0) (failing [5, 6, 0, 1, 2, 3, 4, 5] 0)).loop.a.down = false ∧
      (after (.loopTransactionComplete .branchA [] 0) (failing [5, 0, 1, 2, 3, 4, 5, 0] 1)).loop.a.down = true ∧
      ((after (.loopTransactionComplete .branchA [] 0) (failing [5, 0, 1, 2, 3, 4, 5, 0] 1)).events.cell 11).detail =
        lumDetail 1 := by decide +kernel
theorem test_sweep_start :
    let t := after .sweepStart { base with loop := { base.loop with sweepCountdown := some 0 } }
    t.loop.sweepCountdown = some 10 ∧ t.loop.a.sweep = some 0 ∧ t.loop.b.sweep = some 0 := by decide +kernel

/-! ### The inputs -/

def lowSince (t : Nat) (s : State) : State := { s with inputs := { s.inputs with mainsCand := { high := false, since := t } } }
/-- Section 6 worked: low from 1000.0 s, back high at 1004.0 s before the 10 s are over: one glitch. -/
theorem test_msense_change :
    (after (.msenseChange true 0) { lowSince 996000 base with clock := base.clock }).inputs.glitches = 1 ∧
      (after (.msenseChange true 0) (lowSince 990000 base)).inputs.glitches = 0 := by decide +kernel
theorem test_validated_off :
    let t := after (.validatedOff 0 false) (lowSince 990000 testing)
    t.inputs.mains = .off ∧ (t.group 3).lastResult = some .abortedMains ∧ (t.lum 0).endOwed = false := by decide +kernel
/-- R148: a frame waits and the line has gone idle, so the draw of its slot wait has been made before the step; with the
line busy it has not. -/
theorem test_idle_draw :
    (after (.validatedOff 0 true) (lowSince 990000 (waiting [.beacon] base))).line.draw = some 0x253C#16 ∧
      (after (.validatedOff 0 false) (lowSince 990000 (waiting [.beacon] base))).line.draw = some 0x2525#16 := by
  decide +kernel
def outage (timer : Nat) : State :=
  { base with
    inputs := { base.inputs with mains := .off, outageTimer := timer, mainsCand := { high := true, since := 990000 } } }
theorem test_validated_on :
    let t := after (.validatedOn 0) (outage 5650)
    t.inputs.mains = .on ∧ t.inputs.lastOutage = 95 ∧ t.inputs.outageHold = 760 := by decide +kernel
theorem test_outage_hold_expiry : after .outageHoldExpiry base = base := by decide +kernel
theorem test_inhibit_change :
    (after (.inhibitChange true 250) base).inputs.inhibitCand = { high := true, since := 1000250 } := by decide +kernel
def inhibitHigh (t : Nat) : State := { base with inputs := { base.inputs with inhibitCand := { high := true, since := t } } }
theorem test_inhibit_validated :
    (after (.inhibitValidated 0) (inhibitHigh 998000)).inputs.inhibit = .active ∧
      (after (.inhibitValidated 0) (inhibitHigh 998001)).inputs.inhibit = .inactive := by decide +kernel
theorem test_inhibit_stuck :
    ((after .inhibitStuck { base with inputs := { base.inputs with stuckDue := true } }).events.cell 4).raw = true := by
  decide +kernel
theorem test_skey_change :
    (after (.skeyChange true 1) base).service.keyCand = { high := true, since := 1000001 } := by decide +kernel
theorem test_skey_validated :
    (after (.skeyValidated 0) base).service.key = .inactive := by decide +kernel
theorem test_calendar_advance :
    (after .calendarAdvance { base with calendar := { base.calendar with seconds := 59 } }).calendar.minutes = 2104501 ∧
      (after .calendarAdvance { base with calendar := { base.calendar with seconds := 59, minutes := 0xFFFFFFFE } }).calendar.seconds =
        59 := by decide +kernel

/-! ### The service frames -/

/-- STATION STATUS page 0: address 37, COORDINATING, no reason, minute 00201CB4h, seconds 0, valid, hour 131, tick 1000. -/
theorem test_station_status :
    answer (after (.stationStatus 224#8 37#8 [0x00#8, 0x00#8] 0) base) =
      some
        (.ok,
          [0x25#8, 0x02#8, 0x00#8, 0x00#8, 0x20#8, 0x1C#8, 0xB4#8, 0x00#8, 0x01#8, 0x83#8, 0x00#8, 0x00#8, 0x03#8, 0xE8#8]) := by
  decide +kernel
theorem test_group_query :
    answer (after (.group 224#8 37#8 [0x18#8, 0x00#8] 0) base) = some (.badArgument, []) ∧
      ((answer (after (.group 224#8 37#8 [0x03#8, 0x00#8] 0) base)).map Prod.fst) = some .ok := by decide +kernel
theorem test_luminaire_query :
    answer (after (.luminaire 224#8 37#8 [0x00#8, 0x02#8] 0) base) = some (.badArgument, []) ∧
      ((answer (after (.luminaire 224#8 37#8 [0x00#8, 0x00#8] 0) base)).map Prod.fst) = some .ok := by decide +kernel
/-- Section 9.7: a position in range without a cached page is answered RETRY and the luminaire joins the set. -/
def recorded : State := base.modLum 2 (fun l => { l with record := { l.record with next := 3, count := 8 } })
theorem test_history :
    let t := after (.history 230#8 37#8 [0x02#8, 0x00#8] 0) recorded
    answer t = some (.retry, []) ∧ t.mem.fillPending = [2] := by decide +kernel
theorem test_peer_entry :
    answer (after (.peerEntry 224#8 37#8 [0x00#8, 0x00#8] 0) base) = some (.notApplicable, []) ∧
      ((answer (after (.peerEntry 224#8 37#8 [0x00#8, 0x00#8] 0) { base with view := [peer] })).map (fun a => a.2.take 2)) =
        some [0x2A#8, 0x02#8] := by decide +kernel
theorem test_event_status :
    ((answer (after (.eventStatus 224#8 37#8 [0x00#8, 0x00#8] 0) base)).map (fun a => a.2.length)) = some 36 := by
  decide +kernel
theorem test_counters :
    answer (after (.counters 224#8 37#8 [0x00#8, 0x00#8] 0) { base with line := { base.line with crcErrors := 4, clashes := 2 } }) =
      some (.ok, [0x04#8, 0x02#8, 0x00#8]) := by decide +kernel
theorem test_set_time :
    let t := after (.setTime 224#8 37#8 [0x00#8, 0x20#8, 0x1C#8, 0xB4#8] 0) unset
    t.calendar.minutes = 2104500 ∧ t.calendar.valid = true ∧ answer t = some (.ok, []) := by decide +kernel
theorem test_set_time_never :
    answer (after (.setTime 224#8 37#8 [0xFF#8, 0xFF#8, 0xFF#8, 0xFF#8] 0) base) = some (.badArgument, []) := by decide +kernel
theorem test_hold :
    let t := after (.hold 224#8 37#8 [0x03#8] 0) proposed
    (t.group 3).held = true ∧ (t.group 3).state = .due ∧ answer t = some (.ok, []) := by decide +kernel
theorem test_resume :
    ((after (.resume 224#8 37#8 [0x03#8] 0) (withGroup 3 (fun gr => { gr with held := true, forced := true }))).group 3).forced =
      false := by decide +kernel
theorem test_force :
    ((after (.force 224#8 37#8 [0x03#8] 0) base).group 3).forced = true ∧
      answer (after (.force 224#8 37#8 [0x03#8] 0) { base with service := { base.service with key := .inactive } }) =
        some (.refusedKey, []) := by decide +kernel
theorem test_cancel :
    ((after (.cancel 224#8 37#8 [0x03#8] 0) testing).group 3).lastResult = some .cancelled ∧
      answer (after (.cancel 224#8 37#8 [0x03#8] 0) base) = some (.notApplicable, []) := by decide +kernel
theorem test_clear_events :
    let s := withCells 24 (fun c => { c with raw := true, status := true }) base
    ((after (.clearEvents 224#8 37#8 [0x01#8, 0x00#8, 0x00#8, 0x00#8] 0) s).events.cell 24).raw = false ∧
      ((after (.clearEvents 224#8 37#8 [0x00#8, 0x00#8, 0x00#8, 0x01#8] 0) s).events.cell 24).status = true := by
  decide +kernel
theorem test_clear_isolation :
    (after (.clearIsolation 224#8 37#8 [] 0) { base with sup := { base.sup with isolations := 9 } }).sup.isolations = 0 ∧
      echo (after (.clearIsolation 224#8 37#8 [0x05#8] 0) base) = [0x27#8, 0x00#8, 0x00#8] := by decide +kernel
theorem test_probe :
    (after (.probe 224#8 37#8 [0x01#8] 0) base).loop.slot = some { lum := 1, console := 224#8, inFlight := false } ∧
      answer (after (.probe 224#8 37#8 [0x14#8] 0) base) = some (.notSent, []) := by decide +kernel
theorem test_restart :
    (after (.restart 224#8 37#8 [] 0) base).service.restart = some 2 ∧
      echo (after (.restart 224#8 37#8 [0x05#8] 0) base) = [0x29#8, 0x00#8, 0x00#8] := by decide +kernel
def restarting : State := { base with service := { base.service with restart := some 0 }, sup := { base.sup with isolations := 3 } }
theorem test_restart_taken :
    (after .restartTaken restarting).sup.mode = .loading ∧ (after .restartTaken restarting).sup.isolations = 3 := by
  decide +kernel
theorem test_unknown_service_code :
    answer (after (.unknownServiceCode 224#8 37#8 .command [0x2A#8] 0) base) = some (.badArgument, []) := by decide +kernel

/-! ### The record memory, the reports and the supply -/

def historyLine (n : Nat) : HistLine := { lum := n, time := 2104498, group := 3, result := .passed, achieved := 180, volts := 0x78#8 }
/-- R165: with work for all three, the grant follows the turn. -/
def busy (turn : Requester) : State :=
  (recorded.setMem { base.mem with appender := [historyLine 0], fillPending := [2], turn := turn }).modGroup 3 (fun gr =>
    { gr with dirty := true })
theorem test_memory_grant :
    (after .memoryGrant (busy .appender)).mem.turn = .flusher ∧ (after .memoryGrant (busy .flusher)).mem.turn = .fill ∧
      (after .memoryGrant (busy .fill)).mem.txn = some (.fill 2 false) := by decide +kernel
def writing (t : MemTxn) : State := recorded.setMem { base.mem with appender := [historyLine 2], txn := some t }
theorem test_flush_complete :
    let t := after .flushComplete (writing (.flushGroup 3 0x0260 [0x01#8, 0xFF#8, 0x02#8]))
    t.mem.nvm = [(0x0260, 0x01#8), (0x0262, 0x02#8)] ∧ t.mem.txn = none := by decide +kernel
theorem test_history_line_written :
    let t := after .historyLineWritten (writing (.append (historyLine 2) 0x2130 [0x05#8]))
    (t.lum 2).record.next = 4 ∧ (t.lum 2).record.count = 8 ∧ t.mem.appender = [] ∧ t.mem.nvm.read 0x2130 = 0x05#8 := by
  decide +kernel
theorem test_fill_complete :
    let t := after (.fillComplete .absent) (recorded.setMem { base.mem with fillPending := [2], txn := some (.fill 2 false) })
    t.mem.cache.map CacheEntry.lum = [2] ∧ t.mem.fillPending = [] := by decide +kernel
theorem test_report_offer :
    let t := after .reportOffer { base with events := { base.events with reports := [lampReport] } }
    t.line.waiting = [.event lampReport] ∧ t.events.reports = [] := by decide +kernel
theorem test_rx_frame_discarded :
    (after (.rxFrameDiscarded [42#8, 0#8, 0x11#8, 0#8, 0#8, 0#8]) base).line.crcErrors = 1 ∧
      (after (.rxFrameDiscarded (withCrc16 [37#8, 0#8, 0x03#8, 0#8])) base).line.clashes = 1 := by decide +kernel
theorem test_power_loss :
    let t := after .powerLoss base
    t.powered = false ∧ t.calendar = base.calendar ∧ t.healthy = false := by decide +kernel
/-- The step takes the front of the queue. -/
theorem test_step :
    step { base with pending := [.clearTimerExpiry, .tickSecond] } =
      exec .clearTimerExpiry { base with pending := [.tickSecond] } := rfl

/-! ### What the statements ask for: a state and operands for each -/

/-- A number outside the group table reads as an empty entry, so a law of every group is one of the table's. -/
theorem every_group {P : Group → Prop} (s : State) (hl : s.groups.length = 24) (hn : P Group.empty)
    (h : ∀ g, g < 24 → P (s.group g)) (g : Nat) : P (s.group g) := by
  by_cases hg : g < 24
  · exact h g hg
  · rw [State.group_outside s g (by rw [hl]; exact Nat.le_of_not_lt hg)]
    exact hn

theorem every_lum {P : Lum → Prop} (s : State) (hl : s.lums.length = 128) (hn : P Lum.empty)
    (h : ∀ n, n < 128 → P (s.lum n)) (n : Nat) : P (s.lum n) := by
  by_cases hg : n < 128
  · exact h n hg
  · rw [State.lum_outside s n (by rw [hl]; exact Nat.le_of_not_lt hg)]
    exact hn

/-- The claim law, read off the table. -/
def claimHolds (gr : Group) : Bool :=
  match gr.claim with
  | some c => decide (gr.state = c.phase.state)
  | none => !gr.state.reduced
theorem claim_law (s : State) (hl : s.groups.length = 24) (h : ∀ g, g < 24 → claimHolds (s.group g) = true) : s.ClaimLaw := by
  intro g
  have k : claimHolds (s.group g) = true :=
    every_group (P := fun gr => claimHolds gr = true) s hl (by decide) h g
  unfold claimHolds at k
  split <;> rename_i e <;> rw [e] at k
  · exact of_decide_eq_true k
  · exact Bool.not_eq_true' _ ▸ k

theorem whole_of {s : State} (h : s.groups.length = 24 ∧ s.lums.length = 128 ∧ s.events.cells.length = 26) : s.TablesWhole :=
  ⟨h.1, h.2.1, h.2.2⟩

/-- Every hour of the week is open. -/
theorem hours_open (s : State) (h : s.figures.window = List.replicate 168 true) (g : Nat) : s.HoursOpen g := by
  intro k _ _
  rw [h]
  have : k % 168 < 168 := Nat.mod_lt _ (by decide)
  rw [List.getD_eq_getElem _ _ (by rw [List.length_replicate]; exact this), List.getElem_replicate]

theorem can_test (s : State) (n : Nat) (b : BranchId)
    (h : (s.lum n).presence ≠ .absent ∧ (s.lum n).branch = some b ∧ (s.branch b).down = false) : s.CanTest n :=
  ⟨h.1, b, h.2⟩

/-! The block's step, and the laws. -/

theorem witness_StepRunsFrontCommand : State.reset.pending = [] := rfl
theorem witness_NothingRunsWithoutSupply : { base with powered := false }.powered = false := rfl

/-- A busy station: group 3 TESTING, a peer, a frame in the queue, a history page cached and a fill in flight. -/
def running : State :=
  { waiting [.beacon] testing with
    view := [peer]
    mem :=
      { nvm := [(0x0260, 0x01#8)], appender := [historyLine 1], cache := [{ lum := 7, lines := [] }], fillPending := [2],
        txn := some (.fill 2 false), turn := .appender }
    pending := [.refreshExpiry 3 0] }

theorem witness_MemoryStaysCanonical : Memory.wf running.mem.nvm := by decide +kernel
theorem witness_TablesStayWhole : running.TablesWhole := whole_of (by decide +kernel)
theorem witness_ViewLawIsKept : running.ViewLaw := ⟨by decide +kernel, by decide +kernel, by decide +kernel, by decide +kernel⟩
theorem witness_QueueLawIsKept : running.QueueLaw := ⟨by decide +kernel, by decide +kernel⟩
theorem witness_ReasonLawIsKept : running.ReasonLaw ∧ isolated.ReasonLaw := by
  constructor <;> (unfold State.ReasonLaw; decide +kernel)
theorem witness_ClaimLawIsKept : running.ClaimLaw := claim_law running (by decide +kernel) (by decide +kernel)
theorem witness_MainsLawIsKept : running.MainsLaw := by unfold State.MainsLaw; decide +kernel
theorem witness_ProposalLawIsKept : running.ProposalLaw ∧ proposed.ProposalLaw := by
  constructor <;> (unfold State.ProposalLaw; decide +kernel)
theorem witness_PairLawIsKept : running.PairLaw := by unfold State.PairLaw; decide +kernel
theorem witness_PresenceLawIsKept : running.PresenceLaw :=
  fun n => every_lum (P := fun l => l.presence = .absent ↔ l.misses = 3) running (by decide +kernel) (by decide) (by decide +kernel) n
theorem witness_HistoryLawIsKept : running.HistoryLaw where
  cacheSize := by decide +kernel
  oneEach := by decide +kernel
  noLinePending := by decide +kernel
  notPending := by decide +kernel
  pendingSize := by decide +kernel
  pendingOnce := by decide +kernel
  fillPends := fun n arrived h => by
    have e : some (MemTxn.fill 2 false) = some (MemTxn.fill n arrived) := h
    cases e
    decide +kernel
  fillClear := fun n h => by
    have e : some (MemTxn.fill 2 false) = some (MemTxn.fill n false) := h
    cases e
    decide +kernel
theorem witness_BoundsLawIsKept : running.BoundsLaw where
  tick := by decide +kernel
  calendar := by decide +kernel
  counters := by decide +kernel
  outage := by decide +kernel
  stuck := by decide +kernel
  ranks := fun g => every_group
    (P := fun gr => gr.fails ≤ 7 ∧ gr.urgency ≤ 1023 ∧ gr.claimUrgency ≤ 1023 ∧ gr.backoff ≤ 24 ∧ ∀ a ∈ gr.age, a ≤ 4095)
    running (by decide +kernel) (by decide) (by decide +kernel) g
  recharges := fun g => every_group
    (P := fun gr => gr.defn.rechargeHours ≤ 48 ∧ ∀ k ∈ gr.recharge, k ≤ 2880)
    running (by decide +kernel) (by decide) (by decide +kernel) g
  entries := by decide +kernel
  misses := fun n => every_lum (P := fun l => l.misses ≤ 3) running (by decide +kernel) (by decide) (by decide +kernel) n
  windows := by decide +kernel
  lists := by decide +kernel

/-- The step of the busy station answers a next state. -/
theorem witness_laws_step : step running = .next (after (.refreshExpiry 3 0) { running with pending := [] }) := rfl

/-! The lamps: a pattern that changes, and one that stays. -/
theorem witness_LampsFollowTheirPatterns :
    exec .listenExpiry listening = .next (after .listenExpiry listening) ∧
      (after .listenExpiry listening).runPattern ≠ listening.runPattern ∧
      (after .tickSecond testing).runPattern = testing.runPattern ∧ (after .tickSecond testing).runPattern ≠ .dark ∧
      (after .tickSecond testing).testPattern = testing.testPattern ∧ testing.testPattern ≠ .dark ∧
      (after (.driverCut 17 0) testing).testPattern ≠ testing.testPattern := ⟨rfl, by decide +kernel⟩

theorem witness_LampsFollowTheirPatterns_phases :
    [0, 999, 1000, 1999, 2000].map Pattern.blink.lit = [true, true, false, false, true] ∧
      [0, 249, 250, 499, 500].map Pattern.fast.lit = [true, true, false, false, true] ∧
      [0, 199, 200, 399, 400, 599, 600, 1999, 2000].map Pattern.doubleFlash.lit =
        [true, true, false, false, true, true, false, false, true] ∧
      (testing.group 3).state = .testing ∧ (recovering.group 3).state = .recovering ∧ base.healthy = true ∧
      isolated.faultLamp = true := by decide +kernel

/-! The scheduling pass: not eligible, eligible, forced, calendar not valid, and the overdue latch at its bound. -/
def ranked (p : Option Nat) (early : Nat) (forced : Bool) : State :=
  { withGroup 3 (fun gr => { gr with lastTested := p, forced := forced, defn := { gr.defn with early := early } }) with
    clock := { base.clock with passDue := true } }
theorem witness_PassRanksEveryGroup (p : Option Nat) (early : Nat) (forced : Bool) (h : early ≤ 60) :
    let s := ranked p early forced
    s.powered = true ∧ s.clock.passDue = true ∧ s.sup.mode.configured = true ∧ s.events.cells.length = 26 ∧ 3 < 24 ∧
      (s.group 3).state ≠ .unused ∧ (s.group 3).defn.early ≤ (s.group 3).defn.interval :=
  ⟨rfl, rfl, rfl, rfl, by decide, nofun, Nat.le_trans h (show 60 ≤ 365 by decide)⟩
/-- The ages 394 and 395 fall on either side of the overdue bound, 365 + 30. -/
theorem witness_PassRanksEveryGroup_bounds :
    ageDays 2104500 (some (2104500 - 395 * 1440)) = 395 ∧ ageDays 2104500 (some (2104500 - 395 * 1440 + 1)) = 394 ∧
      figures.grace + (definition []).interval = 395 := by decide

/-- Two groups newly overdue: OVERDUE stands with the higher. The claim record of a RECOVERING group and an UNUSED group stay. -/
theorem witness_PassRanksEveryGroup_frame :
    let due : Group → Group := fun gr => { gr with lastTested := some 0 }
    let s := { (recovering.modGroup 3 due).modGroup 5 due with clock := { base.clock with passDue := true } }
    let t := after .schedulingPass s
    ((s.group 3).overdue = false ∧ (s.group 5).overdue = false ∧ 395 ≤ ageDays 2104500 (some 0)) ∧
      (t.events.cell Event.overdue.number).detail = groupDetail 5 ∧ (t.group 3).claim = (s.group 3).claim ∧
      (t.group 3).recharge = some 0 ∧ (s.group 4).state = .unused ∧ t.group 4 = s.group 4 := by decide +kernel

def ready : State := rankGroups { contest with clock := { contest.clock with passDue := false } }
theorem witness_PassAdmitsTheMostUrgent :
    (contest.powered = true ∧ contest.clock.passDue = true ∧ contest.sup.mode.configured = true) ∧ ready.Admissible 3 :=
  ⟨by decide +kernel,
    { due := by decide +kernel
      mode := Or.inl (by decide +kernel)
      time := by decide +kernel
      mains := by decide +kernel
      outage := by decide +kernel
      inhibit := by decide +kernel
      held := by decide +kernel
      backoff := by decide +kernel
      window := hours_open _ (by decide +kernel) 3
      member := ⟨0, by decide +kernel, can_test _ _ .branchA (by decide +kernel)⟩
      own := by decide +kernel
      peer := by decide +kernel
      overflow := by decide +kernel }⟩
/-- Group 14 is DUE and not admissible, and in the base station no group is. -/
theorem witness_PassAdmitsTheMostUrgent_none :
    (ready.group 14).state = .due ∧ ¬ ready.Admissible 14 ∧
      ∀ g, g < 24 → ¬ { base with inputs := { base.inputs with mains := .off } }.Admissible g :=
  ⟨by decide +kernel, fun h => absurd h.held (by decide +kernel), fun _ _ h => absurd h.mains (by decide +kernel)⟩

/-- The first condition that group 14 fails is the sixth, HELD. -/
theorem witness_PassAdmitsTheMostUrgent_note :
    ∃ before p after, ready.admissionRules 14 = before ++ (p, .held) :: after ∧ (∀ q ∈ before, q.1) ∧ ¬ p :=
  ⟨(ready.admissionRules 14).take 5, (ready.group 14).held = false, (ready.admissionRules 14).drop 6, rfl,
    List.forall_mem_cons.2 ⟨Or.inl (by decide +kernel), List.forall_mem_cons.2 ⟨by decide +kernel,
      List.forall_mem_cons.2 ⟨by decide +kernel, List.forall_mem_cons.2 ⟨by decide +kernel,
        List.forall_mem_cons.2 ⟨by decide +kernel, nofun⟩⟩⟩⟩⟩, by decide +kernel⟩

/-! Conflict, window, recharge and shares. -/
theorem witness_ConflictAndPrecedence :
    ((peer.judged none).urgency = some 400) ∧ (({ peer with full := none }.judged none).urgency = none) := ⟨rfl, rfl⟩
theorem witness_WindowHours :
    (240 ≤ 240 ∧ (59 + 240 + 15) / 60 - 59 / 60 + 1 = 6) ∧
      ∀ k, k < 168 → ({ base with figures := Figures.empty }.figures.window.getD k false) = false :=
  ⟨by decide, fun _ _ => rfl⟩
theorem witness_EarlyEndRecharge :
    (testing.group 3).state = .testing ∧ (testing.group 3).testStart = some { tick := 880000, minute := 2104498 } ∧
      0 < (testing.group 3).defn.minutes := by decide +kernel

theorem witness_PlaceholderShares :
    [peer, { peer with group := 3, full := none }][1]? = some { peer with group := 3, full := none } := rfl

/-! Resets, the supply and the calendar. -/
theorem witness_ResetInitialisesEveryBlock :
    base.powered = true ∧ restarting.powered = true ∧ restarting.service.restart ≠ none ∧
      (restarting.service.replyGone = true ∨ restarting.service.restart = some 0) := by decide +kernel
theorem witness_SupplyAndCrystal (k : Nat) (h : k < 59) :
    let at_ := fun m sec => { base with calendar := { base.calendar with minutes := m, seconds := sec } }
    (at_ 7 k).calendar.seconds < 59 ∧ ((at_ 0xFFFFFFFD 59).calendar.seconds = 59 ∧ (at_ 0xFFFFFFFD 59).calendar.minutes < 0xFFFFFFFE) ∧
      (at_ 0xFFFFFFFE 59).calendar.minutes = 0xFFFFFFFE := ⟨h, ⟨rfl, by decide⟩, rfl⟩

/-! The load. -/
theorem witness_ConfigBlockIsTaken :
    (State.reset.powered = true ∧ State.reset.sup.mode = .loading ∧ State.reset.loader.next = .config) ∧
      State.reset.TablesWhole := ⟨by decide, whole_of (by decide +kernel)⟩
theorem witness_ConfigBlockIsTaken_good :
    let bytes := withCrc16 (List.replicate 510 0#8)
    crc16Good (State.reset.mem.nvm.answer 0 512 (.rewritten bytes)).2 = true := by
  have h : (withCrc16 (List.replicate 510 0#8)).length = 512 := by rw [length_withCrc16, List.length_replicate]
  have k := Memory.answer_rewritten State.reset.mem.nvm 0 (withCrc16 (List.replicate 510 0#8))
  rw [h] at k
  simp only [k, crc16Good_withCrc16]
/-- Group 0 with members 0 and 1, and branch A with address 0 alone: member 1 lies on no branch. With run limit 0 every member
of the group, 0 alone, lies on branch A. -/
theorem witness_ConfigBlockIsTaken_routes :
    let block (limit : Byte) : List Byte := withCrc16 (List.replicate 0x49 0#8 ++ limit :: List.replicate 436 0#8)
    namedMembers (block 1#8) 0x0048 = [0, 1] ∧ branchOf (Figures.read (block 1#8)) 1 = none ∧
      namedMembers (block 0#8) 0x0048 = [0] ∧ branchOf (Figures.read (block 0#8)) 0 = some .branchA ∧
      0x49 + 1 + 436 = 510 := by
  decide +kernel
theorem witness_ConfigBlockIsTaken_bad :
    ∃ y : Byte, crc16Good (State.reset.mem.nvm.answer 0 512 (.rewritten (List.replicate 511 0#8 ++ [y]))).2 = false := by
  have key : ∀ y : Byte, (State.reset.mem.nvm.answer 0 512 (.rewritten (List.replicate 511 0#8 ++ [y]))).2 =
      List.replicate 511 0#8 ++ [y] := fun y => by
    have k := Memory.answer_rewritten State.reset.mem.nvm 0 (List.replicate 511 0#8 ++ [y])
    rwa [show (List.replicate 511 0#8 ++ [y]).length = 512 by rw [List.length_append, List.length_replicate]; rfl] at k
  have form : ∀ y : Byte, crc16Good (List.replicate 511 0#8 ++ [y]) =
      ([0#8, y] == bytesBE 2 (crc16 (List.replicate 510 0#8)).toNat) := fun y => by
    have e : List.replicate 511 0#8 ++ [y] = List.replicate 510 0#8 ++ [0#8, y] := by
      rw [List.replicate_succ' (n := 510), List.append_assoc]
      rfl
    rw [e, crc16Good_append _ _ rfl]
  by_cases h : ([0#8, 0#8] == bytesBE 2 (crc16 (List.replicate 510 0#8)).toNat) = true
  · refine ⟨1#8, ?_⟩
    rw [key, form, ← eq_of_beq h]
    decide
  · exact ⟨0#8, by rw [key, form]; exact Bool.eq_false_of_not_eq_true h⟩
theorem witness_ConfigurationIsInRange :
    (Figures.read []).address = 1 ∧ (Figures.read (List.replicate 32 0xFF#8)).address = 222 ∧
      (Figures.read [222#8]).address = 222 ∧ (Figures.read (List.replicate 13 0xFF#8)).sweepPeriod = 240 ∧
      0x005A + 18 ≤ (List.replicate 512 0xFF#8).length := by decide +kernel
/-- Events 0 to 3 with the nibbles 7, 11, 8 and 12: poll, push to 3, push to 0, poll. -/
theorem witness_ConfigurationIsInRange_selection :
    (Figures.read (List.replicate 58 0x00#8 ++ [0x7B#8, 0x8C#8])).selection.take 4 = [none, some 3, some 0, none] := by
  decide +kernel
theorem witness_GroupRecordRestoresItsGroup :
    ((loadingGroup 3).powered = true ∧ (loadingGroup 3).sup.mode = .loading ∧ (loadingGroup 3).loader.next = .groupRecord 3) ∧
      (loadingGroup 3).TablesWhole ∧ (loadingGroup 3).loader.figures ≠ none ∧ ((loadingGroup 3).group 3).defn.members ≠ [] ∧
      ((loadingGroup 23).group 23).defn.members = [] ∧ (loadingGroup 23).loader.next = .groupRecord 23 :=
  ⟨by decide +kernel, whole_of (by decide +kernel), by decide +kernel⟩
theorem witness_GroupRecordRestoresItsGroup_phases :
    ∀ phase : Nat, phase < 5 →
      let bytes := ((loadingGroup 3).mem.nvm.answer 0x0260 32 (.rewritten (groupRecord phase))).2
      crc16Good bytes = true ∧ byteAt bytes 0 = phase := by
  decide +kernel
theorem witness_GroupRecordRestoresItsGroup_damaged :
    crc16Good ((loadingGroup 3).mem.nvm.answer 0x0260 32 .absent).2 = false := by decide +kernel
def loadingLum (n : Nat) (figs : Option Figures) : State := loading (.lumRecord n) figs State.reset
theorem witness_LuminaireRecordRestoresItsLuminaire (n : Nat) (figs : Option Figures) :
    (loadingLum n figs).powered = true ∧ (loadingLum n figs).sup.mode = .loading ∧ (loadingLum n figs).loader.next = .lumRecord n ∧
      (loadingLum n figs).loader.figures = figs ∧ (loadingLum n figs).TablesWhole :=
  ⟨rfl, rfl, rfl, rfl, whole_of ⟨rfl, rfl, rfl⟩⟩
theorem witness_LuminaireRecordRestoresItsLuminaire_crc :
    crc16Good ((loadingLum 0 none).mem.nvm.answer 0x0800 32 (.rewritten (withCrc16 (List.replicate 30 0#8)))).2 = true ∧
      crc16Good ((loadingLum 126 none).mem.nvm.answer 0x17C0 32 .absent).2 = false := by decide +kernel
/-- The last record, with a group restored as RECOVERING; the laws that the statement asks for. -/
def lastRecord (figs : Option Figures) : State :=
  loading (.lumRecord 127) figs
    { State.reset with
      groups := State.reset.groups.modify 3 (fun gr =>
        { gr with
          defn := definition [0, 1], state := .recovering, recharge := some 90, claim := claimed .recovering none none }) }
theorem witness_LoadEndsInListeningOrUnconfigured :
    ((lastRecord none).powered = true ∧ (lastRecord none).sup.mode = .loading ∧ (lastRecord none).loader.next = .lumRecord 127 ∧
      (lastRecord (some figures)).loader.figures = some figures ∧ ((lastRecord none).group 3).state = .recovering) ∧
      (lastRecord none).TablesWhole ∧ (lastRecord none).ClaimLaw ∧ (lastRecord none).ProposalLaw :=
  ⟨by decide +kernel, whole_of (by decide +kernel),
    claim_law _ (by decide +kernel) (by decide +kernel),
    by unfold State.ProposalLaw; decide +kernel⟩

/-- A group restored from a stored TESTING, luminaire 127 among its members, and SERVICE_REFUSED set and pushed. -/
def lastStored : State :=
  let figs : Figures :=
    { figures with
      mask := List.replicate 26 false, selection := (List.replicate 26 none).set 22 (some 0)
      destinations := [{ on := true, address := 224#8 }] }
  let s :=
    loading (.lumRecord 127) (some figs)
      { State.reset with
        groups := State.reset.groups.modify 3 (fun gr =>
          { gr with
            defn := definition [0, 127], state := .recovering, recharge := some 1440,
            claim := claimed .recovering none none }) }
  withCells 22 (fun c => { c with raw := true, status := true }) { s with loader := { s.loader with restored := [(3, .storedTesting)] } }
theorem witness_LoadEndsInListeningOrUnconfigured_stored :
    ((lastStored.powered = true ∧ lastStored.sup.mode = .loading ∧ lastStored.loader.next = .lumRecord 127 ∧
      (3, Restored.storedTesting) ∈ lastStored.loader.restored ∧ 127 ∈ (lastStored.group 3).defn.members ∧
      1 ∉ (lastStored.group 3).defn.members) ∧
      lastStored.TablesWhole ∧ lastStored.ClaimLaw ∧ lastStored.ProposalLaw) ∧
      (lastStored.events.cell 22).status = true ∧
      crc16Good (lastStored.mem.nvm.answer 0x17E0 32 .absent).2 = false ∧
      crc16Good (lastStored.mem.nvm.answer 0x17E0 32 (.rewritten (withCrc16 (List.replicate 30 0#8)))).2 = true :=
  ⟨⟨by decide +kernel, whole_of (by decide +kernel), claim_law _ (by decide +kernel) (by decide +kernel),
    by unfold State.ProposalLaw; decide +kernel⟩, by decide +kernel⟩
/-- The one report that it hands over, with a good last record: that of SERVICE_REFUSED. -/
theorem witness_LoadEndsInListeningOrUnconfigured_reports :
    ((after (.luminaireRecordRead (.rewritten (withCrc16 (List.replicate 30 0#8))) 0) lastStored).events.reports.map
      Report.event).take 1 = [22] := by decide +kernel

/-- R31, R45: with the queue empty the BEACON is offered first, then the restored group's CLAIM. -/
theorem witness_LoadEndsInListeningOrUnconfigured_queue :
    (lastRecord (some figures)).line.waiting = [] ∧ (lastRecord (some figures)).line.current = none ∧
      (lastRecord (some figures)).line.backlog = [] ∧
      (after (.luminaireRecordRead .absent 0) (lastRecord (some figures))).line.waiting.map TxFrame.order = [2, 1] := by
  decide +kernel

/-- R120: time-valid is clear, so TIME_INVALID has occurred with a good configuration too; with it set it has not. -/
theorem witness_LoadEndsInListeningOrUnconfigured_time :
    let s := lastRecord (some figures)
    let v := { s with calendar := { s.calendar with valid := true } }
    s.calendar.valid = false ∧
      ((after (.luminaireRecordRead .absent 0) s).events.cell Event.timeInvalid.number).raw = true ∧
      ((after (.luminaireRecordRead .absent 0) v).events.cell Event.timeInvalid.number).raw = false := by decide +kernel

/-! The ticks and the expiries. -/
theorem witness_TickSecondCounts : testing.powered = true ∧ testing.events.cells.length = 26 ∧ (testing.group 3).claim ≠ none ∧
    (testing.group 5).claim = none ∧ (after .oscillatorStop testing).calendar.oscStop = true := by decide +kernel
theorem witness_MinuteTickCounts :
    let s := minute (recharging 1)
    s.powered = true ∧ s.clock.minuteDue = true ∧ s.inputs.mains = .on ∧ s.sup.mode ≠ .loading ∧
      (s.group 3).state = .recovering ∧ (s.group 3).recharge = some 1 ∧ (s.group 5).state ≠ .recovering := by decide +kernel
theorem witness_SupervisorExpiries :
    (listening.powered = true ∧ listening.sup.mode = .listening ∧ listening.sup.listen = some 0) ∧
      ({ base with sup := { base.sup with clear := some 0 } }.sup.mode = .coordinating) ∧
      ((silent 0).sup.mode = .coordinating ∧ (silent 0).sup.silence = some 0 ∧ 1 ≤ (silent 0).figures.fallbackDays) ∧
      ({ silent 0 with groups := proposed.groups }.group 3).state = .proposed ∧
      ((silent 1).figures.fallback = true ∧ (silent 1).figures.isolationLimit ≤ min 15 ((silent 1).sup.isolations + 1)) ∧
      ¬ (silent 0).figures.isolationLimit ≤ min 15 ((silent 0).sup.isolations + 1) := by decide +kernel
theorem witness_SupervisorExpiries_tables : (silent 0).TablesWhole := whole_of (by decide +kernel)
theorem witness_SupervisorExpiries_fallback :
    isolated.powered = true ∧ isolated.sup.mode = .isolated ∧ isolated.sup.reason = .silence ∧ isolated.figures.fallback = true ∧
      (isolated.figures.isolationLimit ≤ isolated.sup.isolations ∨
        isolated.sup.fallback = some (isolated.figures.fallbackDays * 86400)) ∧ isolated.events.cells.length = 26 := by
  decide +kernel
/-- Group 3 PROPOSED and group 5 RECOVERING, and the total left by the withdrawal above the cap, or not. -/
def pressed (cap : Nat) : State :=
  { silent 0 with
    figures := { figures with cap := cap }
    groups := (proposed.modGroup 5 (fun gr => { gr with state := .recovering, claim := claimed .recovering none none })).groups }
theorem witness_SupervisorExpiries_latch :
    ((pressed 1).overrun = false ∧ (pressed 1).viewLoad + (pressed 1).ownWeight - ((pressed 1).group 3).weight = 2 ∧
      ((pressed 1).group 5).state.past = true) ∧
      (after (.silenceExpiry false) (pressed 1)).overrun = true ∧
      ((after (.silenceExpiry false) (pressed 1)).events.cell Event.loadOver.number).detail = groupDetail 5 ∧
      (after (.silenceExpiry false) (pressed 2)).overrun = false := by decide +kernel
theorem witness_MarkedExpiries :
    ({ base with overflow := some 0 }.overflow = some 0) ∧
      ({ base with inputs := { base.inputs with stuckDue := true } }.inputs.stuckDue = true) ∧
      ({ base with beacon := some 0 }.sup.mode.configured = true) ∧ base.events.cells.length = 26 ∧
      (TxFrame.beacon ∈ (waiting [.beacon] base).line.waiting) ∧ (TxFrame.beacon ∉ base.line.waiting ∧ base.line.size < 12) ∧
      ({ base with loop := { base.loop with sweepCountdown := some 0 } }.loop.sweepCountdown = some 0) := by decide +kernel

/-! The claims and the tests. -/
theorem witness_HoldExpiryStartsTheTest :
    (proposed.powered = true ∧ (proposed.group 3).state = .proposed ∧
      (proposed.group 3).claim = claimed .proposed (some (.running 30)) none ∧ (proposed.group 3).defn.members.Nodup) ∧
      proposed.HoldMayTest 3 ∧ proposed.CanTest 0 :=
  ⟨by decide +kernel,
    { mode := Or.inl (by decide +kernel)
      mains := by decide +kernel
      outage := by decide +kernel
      inhibit := by decide +kernel
      window := hours_open _ (by decide +kernel) 3
      member := ⟨0, by decide +kernel, can_test _ _ .branchA (by decide +kernel)⟩
      peer := by decide +kernel },
    can_test _ _ .branchA (by decide +kernel)⟩
/-- Member 1 ABSENT can not be tested. -/
theorem witness_HoldExpiryStartsTheTest_excluded :
    let s := proposed.modLum 1 (fun l => { l with presence := .absent, misses := 3 })
    ¬ s.CanTest 1 ∧ 1 < s.lums.length :=
  ⟨fun h => absurd h.1 (by decide +kernel), by decide +kernel⟩
theorem witness_HoldExpiryWithdrawsTheGroup :
    (barred.powered = true ∧ (barred.group 3).state = .proposed ∧
      (barred.group 3).claim = claimed .proposed (some (.running 30)) none) ∧ ¬ barred.HoldMayTest 3 :=
  ⟨by decide +kernel, fun h => absurd h.peer (by decide +kernel)⟩
theorem witness_RefreshRepeatsTheClaim :
    testing.powered = true ∧ (testing.group 3).claim = claimed .testing none (some 0) ∧
      ((testing.group 3).state = .testing ∨ (testing.group 3).state = .recovering) ∧
      (recovering.group 3).claim = claimed .recovering none (some 0) ∧ (recovering.group 3).recharge = some 0 := by decide +kernel
theorem witness_RechargeCompletes :
    recovering.powered = true ∧ (recovering.group 3).state = .recovering ∧ (recovering.group 3).rechargeDue = true ∧
      recovering.inputs.mains = .on := by decide +kernel
/-- The round falls due at this very millisecond; member 0 DISCHARGING, member 1 PENDING_START at count 2. -/
theorem witness_PollRoundActsOnEachMember :
    testing.powered = true ∧ (testing.group 3).state = .testing ∧
      (testing.group 3).testStart = some { tick := 880000, minute := 2104498 } ∧ (testing.group 3).round = some 2 ∧
      (testing.group 3).defn.members.Nodup ∧ 880000 + 60000 * 2 ≤ (testing.atMs 0).now ∧
      (testing.lum 0).test = .discharging ∧ ((testing.lum 1).test = .pendingStart ∧ (testing.lum 1).startCount < 3) := by
  decide +kernel
/-- Member 1 at count 3, without and with its START in flight; and a round that leaves no member under test. -/
def lastCount : State := testing.modLum 1 (fun l => { l with startCount := 3 })
theorem witness_PollRoundActsOnEachMember_last :
    (3 ≤ (lastCount.lum 1).startCount ∧ lastCount.testInFlight 1 .start = false) ∧
      (flying 1 .start .test 1 lastCount).testInFlight 1 .start = true ∧
      ∀ n ∈ ((lastCount.modLum 0 (fun l => { l with test := .passed })).group 3).defn.members,
        ((after (.pollRound 3 0) (lastCount.modLum 0 (fun l => { l with test := .passed }))).lum n).test.live = false := by
  decide +kernel
/-- The first member that fails is member 1, and with no other under test the test concludes with no answer. -/
theorem witness_PollRoundActsOnEachMember_concluded :
    let s := lastCount.modLum 0 (fun l => { l with test := .excluded })
    let t := after (.pollRound 3 0) s
    ((s.group 3).defn.members = [0] ++ 1 :: [] ∧ (s.lum 0).test ≠ .pendingStart) ∧ (t.group 3).recFirstFailing = some 1 ∧
      (t.group 3).lastResult = some .noResponse ∧ (t.group 3).fails = 1 ∧ (t.lum 1).record.result = some .noReply := by
  decide +kernel
theorem witness_EndInstantPassesTheMember :
    ending.powered = true ∧ ending.groupOf 0 = some 3 ∧ (ending.group 3).state = .testing ∧
      (ending.group 3).testStart = some { tick := 880000, minute := 2104498 } ∧
      (ending.group 3).claim = claimed .testing none (some 0) ∧ (ending.lum 0).test = .discharging ∧
      (ending.lum 0).ownStart = some 880000 ∧ (ending.group 3).defn.members.Nodup ∧ ending.events.cells.length = 26 ∧
      880000 + 60000 * (ending.group 3).defn.minutes ≤ (ending.atMs 0).now ∧
      (∀ m ∈ (ending.group 3).defn.members, m ≠ 0 → (ending.lum m).test.live = false) := by decide +kernel
theorem witness_EndInstantPassesTheMember_other : (testing.lum 1).test.live = true ∧ 1 ∈ (testing.group 3).defn.members := by decide +kernel

/-! The peers. -/
theorem hears (s : State) (h : s.powered = true ∧ s.line.held = false) : s.Hears 42#8 0#8 :=
  ⟨h.1, h.2, by decide, Or.inl rfl⟩
theorem hears_peer (s : State) (h : s.powered = true ∧ s.line.held = false) (ha : s.sup.address ≠ some 42)
    (hm : s.sup.mode.configured = true) : s.HearsPeer 42#8 0#8 :=
  ⟨hears s h, by decide, ha, hm⟩
theorem witness_ClaimIsTakenIntoTheView :
    (crowd 47).HearsPeer 42#8 0#8 ∧ (crowd 48).HearsPeer 42#8 0#8 ∧ (ClaimFrame.read (claimPayload 1)).isSome = true ∧
      (crowd 47).view.length < 48 ∧ 48 ≤ (crowd 48).view.length ∧ (crowd 48).events.cells.length = 26 ∧
      3 ∈ (crowd 48).conflictMask 211 [100] ∧ precedes 400 42 7 ((crowd 48).group 3).claimUrgency 37 3 = true :=
  ⟨hears_peer _ (by decide +kernel) (by decide +kernel) (by decide +kernel),
    hears_peer _ (by decide +kernel) (by decide +kernel) (by decide +kernel), by decide +kernel⟩
/-- R28 at its bounds: a CLAIM of 12 bytes with one neighbour is taken; one byte less, group 18h or phase 4 is discarded.
Weight 0 is taken as 1 and 129 as 128, urgency and zones 1024 as 1023. -/
theorem witness_ClaimIsTakenIntoTheView_read :
    (10 + 2 * min 6 (byteAt (claimPayload 1) 9) = (claimPayload 1).length ∧ byteAt (claimPayload 1) 0 ≤ 0x17) ∧
      ClaimFrame.read ((claimPayload 1).take 11) = none ∧ ClaimFrame.read (0x18#8 :: (claimPayload 1).drop 1) = none ∧
      ClaimFrame.read (claimPayload 4) = none ∧
      ClaimFrame.read [0x17#8, 0x03#8, 0x04#8, 0x00#8, 0x81#8, 0x01#8, 0x02#8, 0x04#8, 0x00#8, 0x00#8] =
        some
          { group := 23, phase := .recovering, weight := 128,
            full := { urgency := 1023, remaining := 258, home := 1023, neighbours := [] } } ∧
      (ClaimFrame.read [0x00#8, 0x01#8, 0x00#8, 0x00#8, 0x00#8, 0x00#8, 0x00#8, 0x00#8, 0x00#8, 0x00#8]).map ClaimFrame.weight =
        some 1 := by decide +kernel
theorem witness_ClaimIsTakenIntoTheView_held :
    ({ base with view := [{ peer with group := 7 }] }.view.any (fun f => decide (f.station = 42 ∧ f.group = 7))) = true := by
  decide +kernel
/-- A TESTING claim that has precedence over a TESTING group ends it; a RECOVERING claim of a group that was TESTING and has
not, does not. -/
theorem witness_ClaimIsTakenIntoTheView_late :
    testing.HearsPeer 42#8 0#8 ∧ recovering.HearsPeer 42#8 0#8 ∧ 3 ∈ testing.conflictMask 211 [100] ∧
      3 ∈ recovering.conflictMask 211 [100] ∧ (testing.group 3).state = .testing ∧ (recovering.group 3).state = .recovering ∧
      precedes 400 42 7 373 37 3 = true ∧ precedes 372 42 7 373 37 3 = false ∧ (ClaimFrame.read (claimPayload 2)).isSome = true ∧
      (ClaimFrame.read (claimPayload 3)).isSome = true ∧ (3 ∉ testing.conflictMask 700 [] ∧ (base.group 3).state ≠ .proposed) ∧
      testing.viewLoad + testing.ownWeight ≤ testing.figures.cap :=
  ⟨hears_peer _ (by decide +kernel) (by decide +kernel) (by decide +kernel),
    hears_peer _ (by decide +kernel) (by decide +kernel) (by decide +kernel), by decide +kernel⟩
/-- The claim of `claimPayload` as it is judged. -/
def judged (phase : Phase) (previous : Option Phase) : Judged :=
  { station := 42, group := 7, phase := phase, urgency := some 400, mask := [3], previous := previous }
theorem listens_not (s : State) (h : s.sup.mode = .coordinating) : ¬ s.Relistens := by
  rintro (h' | h') <;> simp_all
theorem witness_ClaimIsTakenIntoTheView_ends :
    testing.conflictMask 211 [100] = [3] ∧ testing.Stops (judged .testing none) 3 ∧
      (∀ h, testing.Stops (judged .testing none) h → h ≤ 3) ∧ testing.Late (judged .recovering (some .testing)) 3 ∧
      testing.Stops (judged .recovering none) 3 ∧ proposed.Yields (judged .proposed none) 3 ∧ ¬ proposed.Relistens :=
  have wins : testing.Outranked (judged .testing none) 3 := ⟨400, rfl, by decide +kernel⟩
  ⟨by decide +kernel, ⟨by decide, by decide +kernel, by decide, .inl ⟨rfl, wins⟩⟩,
    fun _ hh => Nat.le_of_eq (List.mem_singleton.mp hh.1), ⟨by decide, by decide +kernel, by decide, by decide⟩,
    ⟨by decide, by decide +kernel, by decide, .inr ⟨rfl, by rintro ⟨h, -⟩; cases h⟩⟩,
    ⟨by decide, by decide +kernel, .inr (.inr ⟨400, rfl, by decide +kernel⟩)⟩, listens_not _ rfl⟩
/-- Group 3 PROPOSED and the total 107 above the cap: against urgency 400 it is contested, against 300 it is not. -/
def crammed (urgency : Nat) : State :=
  { proposed with
    figures := { figures with cap := 106 }
    view := [{ peer with full := some { urgency := urgency, home := 700, neighbours := [], remaining := 1620 } }] }
/-- R37 at a CLAIM: home zone 700 conflicts with no own group, and yet group 3 yields to the load where the claim has
precedence; where every entry has less, it stays. -/
theorem witness_ClaimIsTakenIntoTheView_contest :
    let claim (urgency : Nat) : Instr :=
      .claimReceived 42#8 0#8 ([0x07#8, 0x01#8] ++ bytesBE 2 urgency ++ [0x12#8, 0x06#8, 0x54#8, 0x02#8, 0xBC#8, 0x00#8]) 0
    ((after (claim 400) (crammed 300)).group 3).state = .due ∧ ((after (claim 300) (crammed 300)).group 3).state = .proposed := by
  decide +kernel
theorem witness_EntriesLeaveTheView_contest :
    ((crammed 400).group 3).state = .proposed ∧ (crammed 400).figures.cap < (crammed 400).viewLoad + (crammed 400).ownWeight ∧
      (crammed 400).Contested 3 ∧ ¬ (crammed 300).Contested 3 ∧ ((loadSteps (crammed 400)).group 3).state = .due ∧
      ((loadSteps (crammed 300)).group 3).state = .proposed :=
  ⟨by decide +kernel, by decide +kernel,
    ⟨_, List.mem_singleton.2 rfl, Or.inr (Or.inr ⟨_, rfl, by decide +kernel⟩)⟩,
    fun ⟨e, he, h⟩ => by
      rw [List.mem_singleton.1 he] at h
      rcases h with h | h | ⟨f, hf, h⟩
      · exact h rfl
      · cases h
      · cases hf
        exact absurd h (by decide +kernel),
    by decide +kernel, by decide +kernel⟩
/-- Group 3 past PROPOSED and the total above the cap: the overrun latch is set, or it is clear. -/
theorem witness_EntriesLeaveTheView_overrun :
    let s := { testing with figures := { figures with cap := 1 } }
    s.overrun = false ∧ (loadSteps s).overrun = true ∧ (loadSteps testing).overrun = false ∧ ((loadSteps s).group 3).state.past = true ∧
      s.events.cells.length = 26 := by decide +kernel
theorem witness_EntriesLeaveTheView_ended :
    { base with view := [{ peer with rechargeEnded := true }, { peer with group := 3 }] }.ViewLaw :=
  ⟨by decide +kernel, by decide +kernel, by decide +kernel, by decide +kernel⟩
theorem witness_EntriesLeaveTheView_release : base.HearsPeer 42#8 0#8 ∧ (ReleaseFrame.read [0x17#8, 0x03#8]).isSome = true :=
  ⟨hears_peer _ (by decide +kernel) (by decide +kernel) (by decide +kernel), by decide⟩
theorem witness_EntriesLeaveTheView_read :
    ReleaseFrame.read [0x17#8, 0x01#8] = some { group := 23 } ∧ ReleaseFrame.read [0x17#8, 0x01#8, 0x09#8] = some { group := 23 } ∧
      ReleaseFrame.read [0x18#8, 0x01#8] = none ∧ ReleaseFrame.read [0x17#8, 0x04#8] = none ∧ ReleaseFrame.read [0x17#8] = none := by
  decide +kernel
def aged : State := { base with view := [{ peer with age := 299 }, { peer with group := 3, age := 300 }, { peer with group := 4 }] }
theorem witness_EntriesLeaveTheView :
    aged.powered = true ∧ aged.ViewLaw ∧ aged.view = [{ peer with age := 299 }] ++ { peer with group := 3, age := 300 } :: [{ peer with group := 4 }] ∧
      (∀ f ∈ [{ peer with age := 299 }], f.age < 300) ∧ 300 ≤ ({ peer with group := 3, age := 300 } : Entry).age :=
  ⟨rfl, ⟨by decide +kernel, by decide +kernel, by decide +kernel, by decide +kernel⟩, rfl, by decide, by decide⟩
/-- A count of 5 is taken as 4; group 18h or phase 0 in a pair within the count discards the whole, and so does a missing
byte. -/
theorem witness_BeaconIsReconciledWhole_read :
    let head : List Byte := [0x02#8, 0x01#8, 0x00#8, 0x20#8, 0x1C#8, 0xB4#8, 0x00#8, 0x1E#8]
    let pairs : List Byte := [0x01#8, 0x02#8, 0x02#8, 0x01#8, 0x03#8, 0x03#8, 0x17#8, 0x01#8]
    (BeaconFrame.read (head ++ [0x05#8] ++ pairs)).map BeaconFrame.claims =
        some [(1, .testing), (2, .proposed), (3, .recovering), (23, .proposed)] ∧
      BeaconFrame.read (head ++ [0x04#8] ++ pairs.take 7) = none ∧
      BeaconFrame.read (head ++ [0x01#8, 0x18#8, 0x01#8]) = none ∧ BeaconFrame.read (head ++ [0x01#8, 0x01#8, 0x00#8]) = none ∧
      (BeaconFrame.read (head ++ [0x00#8])).map BeaconFrame.minutes = some 2104500 := by decide +kernel
theorem witness_BeaconIsReconciledWhole :
    unset.HearsPeer 42#8 0#8 ∧ (BeaconFrame.read beaconPayload).map BeaconFrame.valid = some true ∧ unset.calendar.valid = false ∧
      unset.view.length + 1 ≤ 48 :=
  ⟨hears_peer _ (by decide +kernel) (by decide +kernel) (by decide +kernel), by decide +kernel⟩
/-- A held entry whose phase the BEACON's list turns to TESTING, with precedence, ends the test of group 3, and one that the
list does not name leaves the view. -/
theorem witness_BeaconIsReconciledWhole_ended :
    let s := { testing with view := [{ peer with group := 1, mask := [3] }, { peer with group := 9 }] }
    let t := after (.beaconReceived 42#8 0#8 beaconPayload 0) s
    t.view.map Entry.group = [1] ∧ (t.group 3).lastResult = some .abortedConflict ∧ (t.events.cell 19).raw = true := by
  decide +kernel
theorem witness_OtherFramesAndErrors :
    base.Hears 42#8 0#8 ∧ isolated.Hears 42#8 0#8 ∧ base.Hears 224#8 37#8 ∧ base.sup.mode.configured = true ∧ (0x11#8 : Byte) ≠ 0x01#8 ∧
      isolated.sup.mode = .isolated ∧ isolated.sup.reason = .silence :=
  ⟨hears _ (by decide +kernel), hears _ (by decide +kernel), ⟨by decide +kernel, by decide +kernel, by decide, by decide +kernel⟩,
    by decide +kernel⟩
/-- A PROPOSED group in STANDALONE, and a console's frame to the address in use that is no QUERY and no COMMAND. -/
theorem witness_OtherFramesAndErrors_standalone :
    (withMode .standalone proposed).Hears 42#8 0#8 ∧ (withMode .standalone proposed).sup.mode = .standalone ∧
      ((withMode .standalone proposed).group 3).state = .proposed ∧ 222 < (224#8 : Byte).toNat ∧ (0x11#8 : Byte) ≠ 0x10#8 ∧
      (0x11#8 : Byte) ≠ 0x12#8 ∧ (42#8 : Byte).toNat ≤ 222 := ⟨hears _ (by decide +kernel), by decide +kernel⟩
/-- R28, R131: a CLAIM payload cut short, from a station; a QUERY to the station from a station. -/
theorem witness_OtherFramesAndErrors_payload :
    CarriesDiscarded 42#8 0#8 0 (.claimReceived 42#8 0#8 ((claimPayload 1).take 11) 0) ∧ base.sup.address ≠ some (42#8 : Byte).toNat ∧
      CarriesService 42#8 37#8 0 (.stationStatus 42#8 37#8 [] 0) ∧
      (after (.claimReceived 42#8 0#8 ((claimPayload 1).take 11) 0) { base with sup := { base.sup with silence := some 9 } }).sup.silence =
        some 300 :=
  ⟨⟨_, Or.inl ⟨rfl, by decide +kernel⟩⟩, by decide +kernel, Or.inl ⟨[], List.mem_cons_self⟩, by decide +kernel⟩
/-- R126, R127, R174: in LOADING, in UNCONFIGURED, and to broadcast or from 223, a frame reaches no block. -/
theorem witness_OtherFramesAndErrors_unheard :
    (State.reset.powered = true ∧ State.reset.line.held = false ∧ State.reset.sup.mode = .loading ∧
        State.reset.sup.address = none) ∧
      CarriesProtocol 42#8 0#8 [] 0 (.beaconReceived 42#8 0#8 [] 0) ∧ CarriesOther 42#8 0#8 0x11#8 0 (.otherFrameReceived 42#8 0#8 0x11#8 0) ∧
      (withMode .unconfigured base).Hears 42#8 0#8 ∧ (withMode .unconfigured base).sup.address ≠ some (42#8 : Byte).toNat ∧
      (base.Hears 224#8 0#8 ∧ base.sup.address ≠ some (0#8 : Byte).toNat) ∧ base.Hears 223#8 37#8 ∧
      CarriesService 223#8 37#8 0 (.restart 223#8 37#8 [] 0) :=
  ⟨by decide +kernel, by simp [CarriesProtocol], ⟨rfl, by decide, by decide, by decide⟩, hears _ (by decide +kernel), by decide +kernel,
    ⟨⟨by decide +kernel, by decide +kernel, by decide, by decide +kernel⟩, by decide +kernel⟩,
    ⟨by decide +kernel, by decide +kernel, by decide, by decide +kernel⟩, Or.inl ⟨[], by simp⟩⟩
theorem witness_OtherFramesAndErrors_broken :
    base.line.held = false ∧ breakFits .stopDominant [42#8] = true ∧ breakFits .idleEarly [42#8, 0#8] = true := by decide +kernel
/-- A frame with a bad CRC-16, one for station 38, and one that bears the station's own address. -/
theorem witness_OtherFramesAndErrors_discarded :
    crc16Good [42#8, 0#8, 0x11#8, 0#8, 0#8, 0#8] = false ∧ crc16Good (withCrc16 [42#8, 38#8, 0x11#8, 0#8]) = true ∧
      ¬ ((38#8 : Byte).toNat = 0 ∨ base.sup.address = some (38#8 : Byte).toNat) ∧ base.sup.address = some (37#8 : Byte).toNat := by
  decide +kernel

/-! Transmission. -/
theorem witness_TransmissionAttemptsBegin :
    (base.powered = true ∧ base.sup.mode ≠ .loading ∧ base.line.cut = none ∧ base.line.held = false) ∧
      ((waiting [.beacon, claimFrame] base).line.current = none ∧ (waiting [.beacon, claimFrame] base).line.waiting ≠ []) ∧
      base.line.draw = some 0x2525#16 ∧ (waiting [.beacon] base).line.size ≠ 0 ∧
      ((after .txCollision (sending 1 claimFrame base)).line.current.map Current.sending) = some false := by decide +kernel
/-- A BEACON without a claim that has just been started is on the line, 15 characters; while it waits nothing is. -/
theorem witness_TransmissionAttemptsBegin_levels :
    let t := after .txAttemptStart (waiting [.beacon] { base with groups := State.reset.groups })
    t.line.current.map (fun c => (c.sending, c.chars.length)) = some (true, 15) ∧ t.sentLevels.length = 150 ∧
      (waiting [.beacon] base).sentLevels = [] := by decide +kernel
/-- A wait whose draw has been made, and one whose draw is still to make. -/
theorem witness_TransmissionAttemptsBegin_slot :
    (drawnWhileIdle true (waiting [.beacon] base)).line.slot = some 12 ∧ (waiting [.beacon] base).line.slot = none := by
  decide +kernel
theorem witness_TransmissionAttemptsEnd :
    ((sending 7 claimFrame proposed).line.current.map (fun c => (c.sending, decide (c.attempt < 8)))) = some (true, true) ∧
      ((sending 8 claimFrame proposed).line.current.map (fun c => decide (8 ≤ c.attempt))) = some true ∧
      (sending 8 claimFrame proposed).powered = true ∧ (sending 8 claimFrame proposed).events.cells.length = 26 ∧
      ((sending 8 claimFrame proposed).group 3).state = .proposed := by decide +kernel
theorem witness_DriverCutStopsTheStation : testing.powered = true ∧ 16 < 17 ∧ testing.line.cut = none ∧ testing.sup.mode.configured = true ∧
    (withMode .unconfigured base).sup.mode.configured = false := by decide +kernel
theorem witness_DriverCutStopsTheStation_tables : testing.TablesWhole := whole_of (by decide +kernel)
/-- R178: the REPLY of a RESTART leaves the queue by completion, by the drop at the eighth attempt and at a driver cut, and is
marked; a frame of another kind is not. -/
def restartReply : TxFrame :=
  .reply { console := 224#8, status := .ok, echo := [0x29#8, 0x00#8, 0x00#8], data := [], restart := true }
theorem witness_TransmissionAttemptsEnd_restart :
    (after .txComplete (sending 1 restartReply base)).service.replyGone = true ∧
      (after .txCollision (sending 8 restartReply base)).service.replyGone = true ∧
      (after .txCollision (sending 7 restartReply base)).service.replyGone = false ∧
      (after .txComplete (sending 1 .beacon base)).service.replyGone = false ∧
      (after (.driverCut 17 0) (waiting [.beacon, restartReply] base)).service.replyGone = true ∧
      base.service.replyGone = false := by decide +kernel
/-- At the eighth collision eleven frames wait and two stand in the backlog: one of them enters, all in order. -/
def brimful : State :=
  let s := sending 8 .beacon (waiting ([0, 1, 2, 4, 5, 6, 7, 9, 10, 12, 13].map limitClaim) base)
  { s with line := { s.line with backlog := [limitClaim 15, limitClaim 16] } }
theorem witness_TransmissionAttemptsEnd_backlog :
    brimful.line.size ≤ 12 ∧
      (after .txCollision brimful).line.waiting = [0, 1, 2, 4, 5, 6, 7, 9, 10, 12, 13, 15].map limitClaim ∧
      (after .txCollision brimful).line.backlog = [limitClaim 16] := by decide +kernel
/-- R147, R178: a RELEASE displaces the youngest service frame of a full queue, the REPLY of a RESTART. -/
theorem witness_LineFlagsAndReports_restart :
    let s := waiting ([0, 1, 2, 4, 5, 6, 7, 9, 10, 12, 13].map limitClaim ++ [restartReply]) base
    12 ≤ s.line.size ∧ restartReply.order = 3 ∧ (TxFrame.release 3 .aborted).order ≠ 3 ∧
      (offer (.release 3 .aborted) s).service.replyGone = true ∧ (offer .beacon s).service.replyGone = true ∧
      (offer restartReply s).service.replyGone = false := by decide +kernel
theorem witness_LineFlagsAndReports :
    ({ base with line := { base.line with cut := some 0 } }.line.cut = some 0) ∧ (64 ≤ 64 ∧ base.line.held = false) ∧ 12 ≤ 12 ∧
      ({ base with events := { base.events with reports := [lampReport] } }.events.reports = lampReport :: []) ∧
      base.sup.mode ≠ .loading ∧ base.line.size < 12 ∧ base.line.backlog = [] ∧ base.line.waiting = [] ∧ base.line.current = none := by
  decide +kernel

/-- LUMINAIRE_FAULT unmasked and pushed to console 230: with room for its report, with the report list full, and masked. -/
def pushing (mask : Bool) (reports : List Report) : State :=
  let s := withCells 10 (fun c => { c with mask := mask, push := some 0 }) base
  { s with events := { s.events with destinations := [{ on := true, address := 230#8 }], reports := reports } }
theorem witness_LineFlagsAndReports_raise :
    ((pushing false []).events.cell 10).mask = false ∧ ((pushing false []).events.cell 10).status = false ∧
      ((pushing false []).events.cell 10).push = some 0 ∧ (pushing false (List.replicate 7 lampReport)).events.reports.length < 8 ∧
      8 ≤ (pushing false (List.replicate 8 lampReport)).events.reports.length ∧ ((pushing true []).events.cell 10).mask = true ∧
      (pushing false []).events.cells.length = 26 := by decide +kernel
/-- A full queue with a waiting EVENT last, one with a BEACON and no service frame, and one with CLAIMs alone. -/
theorem witness_LineFlagsAndReports_full :
    12 ≤ atLimit.line.size ∧ atLimit.line.waiting = ([0, 1, 2, 4, 5, 6, 7, 9, 10, 12].map limitClaim ++ [.beacon]) ++ .event lampReport :: [] ∧
      (TxFrame.event lampReport).order = 3 ∧ (limitClaim 13).order = 1 ∧ TxFrame.beacon.order = 2 ∧ reply230.order = 3 ∧
      (let s := waiting (([0, 1, 2, 3, 4, 5, 6, 7, 8, 9, 10].map limitClaim) ++ [.beacon]) base
       12 ≤ s.line.size ∧ (∀ w ∈ s.line.waiting, w.order ≠ 3)) ∧
      (let s := waiting ([0, 1, 2, 3, 4, 5, 6, 7, 8, 9, 10, 11].map limitClaim) base
       12 ≤ s.line.size ∧ (∀ w ∈ s.line.waiting, w.order ≠ 3) ∧ TxFrame.beacon ∉ s.line.waiting) := by decide +kernel

/-! The loop. -/
theorem witness_BranchGrantServesTheSources_tables : base.TablesWhole := whole_of (by decide +kernel)
theorem witness_BranchGrantServesTheSources :
    (base.powered = true ∧ base.sup.mode ≠ .loading ∧ (base.branch .branchA).txn = none) ∧
      ((base.modLum 0 (fun l => { l with endOwed := true })).lum 0).endOwed = true ∧
      (asking 1 .start testing).Asks .branchA .start 3 1 :=
  ⟨by decide +kernel, by decide +kernel,
    by decide, by decide +kernel, by decide +kernel, by decide +kernel, by decide +kernel, fun _ => by decide +kernel⟩
/-- No END is owed and nothing is asked of the base station; a probe waits in the slot, or a sweep is at its cursor. -/
theorem witness_BranchGrantServesTheSources_idle :
    (∀ n, n < 128 → ¬ ((base.lum n).branch = some .branchA ∧ (base.lum n).endOwed = true)) ∧
      (∀ r g n, ¬ base.Asks .branchA r g n) ∧
      ((after (.probe 224#8 37#8 [0x01#8] 0) base).loop.slot = some { lum := 1, console := 224#8, inFlight := false }) ∧
      ((after .sweepStart { base with loop := { base.loop with sweepCountdown := some 0 } }).loop.a.sweep = some 0) ∧
      (2 < 128 ∧ 0 ≤ 2 ∧ (base.lum 2).branch = some .branchA ∧ 2 ∈ (base.group 5).defn.members ∧ base.underTest 2 = false) := by
  refine ⟨by decide +kernel, fun r g n h => ?_, by decide +kernel, by decide +kernel, by decide +kernel⟩
  exact absurd h.2.1 (every_group (P := fun gr => gr.state ≠ .testing) base (by decide +kernel) (by decide) (by decide +kernel) g)
/-- A START request of a DOWN branch is taken away as the branch is granted; the END owed to luminaire 0 goes out. -/
theorem witness_BranchGrantServesTheSources_down :
    let s := (asking 1 .start testing).modLum 0 (fun l => { l with endOwed := true })
    let d := { s with loop := { s.loop with a := { s.loop.a with down := true } } }
    let t := after (.branchGrant .branchA) d
    (d.lum 1).request = some .start ∧ (t.lum 1).request = none ∧ (t.lum 0).endOwed = true ∧
      t.loop.a.txn.map LoopTxn.chars = some [0x00#8, 0x03#8, crc8 [0x00#8, 0x03#8]] ∧ (t.lum 1).test = .pendingStart := by
  decide +kernel
theorem witness_LoopTransactionIsSettled :
    (testing.powered = true ∧ testing.TablesWhole) ∧
      ((flying 1 .start .test 1 testing).branch .branchA).txn =
        some { lum := 1, command := .start, source := .test, attempt := 1, chars := [] } ∧
      (goodReply 1 (goodChars 1 7)).isSome = true ∧ goodReply 1 [] = none ∧ goodReply 1 (goodChars 2 7) = none ∧ 127 < 128 :=
  ⟨⟨rfl, witness_DriverCutStopsTheStation_tables⟩, by decide +kernel⟩
theorem witness_TestTransactionsMoveTheMember :
    (testing.groupOf 1 = some 3 ∧ (testing.group 3).state = .testing ∧ (testing.lum 1).test = .pendingStart ∧
      (testing.lum 0).test = .discharging ∧ (testing.lum 0).ownStart = some 880000) ∧
      ((goodReply 1 (goodChars 1 7)).map LoopReply.inTest = some true) ∧ ((goodReply 1 (goodChars 1 3)).map LoopReply.inTest = some false) ∧
      ((goodReply 0 (goodChars 0 2)).map LoopReply.lampLit = some false) ∧ 3 ≤ (lastCount.lum 1).startCount := by decide +kernel

/-- The reply that fails the last member under test concludes its test; a reply to a member that is not under test leaves it. -/
theorem witness_TestTransactionsMoveTheMember_concluded :
    let s := (flying 0 .probe .test 1 testing).modLum 1 (fun l => { l with test := .passed })
    let t := after (.loopTransactionComplete .branchA (goodChars 0 2) 0) s
    let u := after (.loopTransactionComplete .branchA (goodChars 2 7) 0) (flying 2 .probe .test 1 testing)
    ((s.lum 1).test.live = false ∧ (s.lum 0).test = .discharging) ∧ (t.group 3).lastResult = some .part ∧
      (t.group 3).state = .recovering ∧ (t.lum 0).achieved = 2 ∧ (t.lum 0).record.result = some .failedEarly ∧
      (testing.lum 2).test ≠ .discharging ∧ (u.lum 2).lastGood = none := by decide +kernel
/-! The inputs. -/
theorem witness_PinsAndContactsFollowTheirFilters :
    (true ≠ base.pins.msense ∧ true ≠ base.pins.inhibit ∧ true ≠ base.pins.skey ∧ base.powered = true) ∧
      ({ base with powered := false }.powered = false) ∧
      ((inhibitHigh 998000).inputs.inhibitCand.since + 2000 ≤ ((inhibitHigh 998000).atMs 0).now ∧
        (inhibitHigh 998000).inputs.inhibitCand.high = true ∧ (inhibitHigh 998000).inputs.inhibit ≠ .active) ∧
      (base.service.keyCand.since + 2000 ≤ (base.atMs 0).now ∧ base.service.keyCand.high = false ∧ base.service.key ≠ .inactive) := by
  decide +kernel
theorem witness_MainsIsValidated_off :
    let s := lowSince 990000 testing
    s.powered = true ∧ s.inputs.mainsCand.high = false ∧ s.inputs.mains ≠ .off ∧
      s.inputs.mainsCand.since + 1000 * s.inputs.validation ≤ (s.atMs 0).now ∧ (s.group 3).state = .testing ∧
      ((lowSince 990000 proposed).group 3).state = .proposed := by decide +kernel
theorem witness_MainsIsValidated_tables : (lowSince 990000 testing).TablesWhole := whole_of (by decide +kernel)
theorem witness_MainsIsValidated_on :
    let s := outage 5650
    s.powered = true ∧ s.inputs.mainsCand.high = true ∧ s.inputs.mains ≠ .on ∧
      s.inputs.mainsCand.since + 1000 * s.inputs.validation ≤ (s.atMs 0).now ∧ s.events.cells.length = 26 := by decide +kernel

/-! The service frames. -/
theorem hears_console (s : State) (h : s.powered = true ∧ s.line.held = false ∧ s.sup.address = some 37 ∧ s.sup.mode ≠ .loading) :
    s.HearsConsole 224#8 37#8 :=
  ⟨h.1, h.2.1, by decide, h.2.2.1, h.2.2.2⟩
theorem permits (s : State) (key : Bool)
    (h : s.sup.mode ≠ .unconfigured ∧ (∃ a ∈ s.service.authorised, a.on = true ∧ a.address = 224#8) ∧ s.service.key = .active ∧
      s.service.restart = none) : s.Permits 224#8 key :=
  ⟨h.1, h.2.1, fun _ => h.2.2.1, h.2.2.2⟩
theorem witness_QueriesAreAnswered :
    base.HearsConsole 224#8 37#8 ∧ base.line.size < 12 ∧ { base with view := [peer] }.view[0]? = some peer ∧
      base.view.length ≤ 47 ∧ (withMode .unconfigured base).HearsConsole 224#8 37#8 :=
  ⟨hears_console _ (by decide +kernel), by decide +kernel, rfl, by decide +kernel, hears_console _ (by decide +kernel)⟩
theorem witness_QueriesAreAnswered_pages :
    (stationStatusData 0 6 base).isSome = true ∧ (groupData 23 2 base).isSome = true ∧ (luminaireData 127 1 base).isSome = true ∧
      (eventStatusData 0 1 base).isSome = true ∧ (stationStatusData 0 7 base).isSome = false := by decide +kernel
/-- A full queue, and QUERY payloads of two, of one and of no bytes. -/
theorem witness_QueriesAreAnswered_full :
    atLimit.HearsConsole 224#8 37#8 ∧ 12 ≤ atLimit.line.size ∧ [0x01#8, 0x00#8].length < 3 ∧
      (∀ item ∈ ([] : List Byte).head?, ¬ (1 ≤ item.toNat ∧ item.toNat ≤ 7)) ∧
      (∀ item ∈ [0x08#8].head?, ¬ (1 ≤ item.toNat ∧ item.toNat ≤ 7)) :=
  ⟨hears_console _ (by decide +kernel), by decide +kernel, by decide, nofun, by decide⟩
theorem witness_QueriesAreAnswered_set : [12, 0, 127].Nodup ∧ (setNat [12, 0, 127]).testBit 127 = true := by decide +kernel
/-- A page is cached for 7, a fill stands for 2, and 3 has neither; each has two lines recorded. -/
def remembered : State :=
  let two : Lum → Lum := fun l => { l with record := { l.record with next := 2, count := 2 } }
  { ((base.modLum 7 two).modLum 2 two).modLum 3 two with
    mem :=
      { base.mem with cache := [{ lum := 7, lines := List.replicate 8 (List.replicate 16 0#8, false) }], fillPending := [2] } }
/-- The station of the next witness in UNCONFIGURED, which gives no data. -/
theorem witness_HistoryIsAnsweredFromTheCache_unconfigured :
    (withMode .unconfigured remembered).HearsConsole 224#8 37#8 ∧ (withMode .unconfigured remembered).sup.mode = .unconfigured ∧
      answer (after (.history 224#8 37#8 [0x07#8, 0x00#8] 0) (withMode .unconfigured remembered)) = some (.unconfigured, []) :=
  ⟨hears_console _ (by decide +kernel), rfl, by decide +kernel⟩
theorem witness_HistoryIsAnsweredFromTheCache :
    remembered.HearsConsole 224#8 37#8 ∧ remembered.sup.mode ≠ .unconfigured ∧ remembered.HistoryLaw ∧
      (remembered.lum 7).record.count = 2 ∧ (∀ c ∈ remembered.mem.cache, c.lum ≠ 3) ∧ 3 ∉ remembered.mem.fillPending ∧
      2 ∈ remembered.mem.fillPending :=
  ⟨hears_console _ (by decide +kernel), by decide +kernel,
    { cacheSize := by decide +kernel
      oneEach := by decide +kernel
      noLinePending := by decide +kernel
      notPending := by decide +kernel
      pendingSize := by decide +kernel
      pendingOnce := by decide +kernel
      fillPends := fun _ _ h => nomatch h
      fillClear := fun _ h => nomatch h },
    by decide +kernel, by decide +kernel, by decide +kernel, by decide +kernel⟩
theorem witness_GroupCommandsActOnTheirGroup (key : Bool) :
    (testing.HearsConsole 224#8 37#8 ∧ testing.Permits 224#8 key) ∧ (proposed.HearsConsole 224#8 37#8 ∧ proposed.Permits 224#8 key) ∧
      (23#8 : Byte).toNat < 24 ∧ (base.group 23).state = .unused :=
  ⟨⟨hears_console _ (by decide +kernel), permits _ key (by decide +kernel)⟩,
    ⟨hears_console _ (by decide +kernel), permits _ key (by decide +kernel)⟩, by decide, by decide +kernel⟩
/-- The appender list full, so that the lines of the test that CANCEL ends are lost. -/
def brimming : State := { testing with mem := { testing.mem with appender := List.replicate 256 (historyLine 9) } }
theorem witness_GroupCommandsActOnTheirGroup_lost :
    let t := after (.cancel 224#8 37#8 [0x03#8] 0) brimming
    linesOf 3 brimming t ≠ [] ∧ 256 < brimming.mem.appender.length + (linesOf 3 brimming t).length ∧
      brimming.events.cells.length = 26 ∧ (brimming.group 3).state = .testing := by decide +kernel
/-- A withdrawal by command with room for RELEASE and REPLY, and with the queue full. -/
theorem witness_GroupCommandsActOnTheirGroup_room :
    (proposed.line.size < 12 ∧ proposed.line.backlog = [] ∧ 12 ≤ { proposed with line := atLimit.line }.line.size) ∧
      (after (.cancel 224#8 37#8 [0x03#8] 0) proposed).line.waiting.map TxFrame.order = [1, 3] ∧
      (after (.cancel 224#8 37#8 [0x03#8] 0) { proposed with line := atLimit.line }).line.waiting.map TxFrame.order =
        List.replicate 10 1 ++ [2, 1] := by decide +kernel
theorem witness_StationCommandsAct :
    (base.HearsConsole 224#8 37#8 ∧ base.Permits 224#8 false) ∧ fieldAt [0xFF#8, 0xFF#8, 0xFF#8, 0xFF#8] 0 4 = 0xFFFFFFFF ∧
      fieldAt [0xFF#8, 0xFF#8, 0xFF#8, 0xFE#8] 0 4 ≠ 0xFFFFFFFF ∧ base.loop.slot = none ∧ (base.lum 127).branch = none ∧
      (base.lum 1).branch = some .branchA ∧ base.service.key = .active ∧ base.service.restart = none :=
  ⟨⟨hears_console _ (by decide +kernel), permits _ false (by decide +kernel)⟩, by decide, by decide, by decide +kernel⟩
/-- A console that is not authorised, the key not active, a restart pending, and a group number at its bound. -/
theorem witness_CommandsAreChecked :
    base.HearsConsole 224#8 37#8 ∧ base.events.cells.length = 26 ∧
      (¬ ∃ a ∈ { base with service := { base.service with authorised := [] } }.service.authorised, a.on = true ∧ a.address = 224#8) ∧
      ({ base with service := { base.service with key := .inactive } }.service.key ≠ .active) ∧ restarting.service.restart ≠ none ∧
      24 ≤ byteAt [0x18#8] 0 ∧ ¬ (0x21 ≤ (0x2A#8 : Byte).toNat ∧ (0x2A#8 : Byte).toNat ≤ 0x29) ∧
      ¬ (1 ≤ (0x08#8 : Byte).toNat ∧ (0x08#8 : Byte).toNat ≤ 7) :=
  ⟨hears_console _ (by decide +kernel), by decide +kernel⟩
/-- An empty COMMAND that passes the checks, and one that fails each of checks 1, 2 and 4. -/
theorem witness_CommandsAreChecked_empty :
    let status (s : State) : Option Status := (answer (after (.unknownServiceCode 224#8 37#8 .command [] 0) s)).map Prod.fst
    let stranger : State := { base with service := { base.service with authorised := [] } }
    (base.HearsConsole 224#8 37#8 ∧ (withMode .unconfigured base).HearsConsole 224#8 37#8 ∧ stranger.HearsConsole 224#8 37#8 ∧
      restarting.HearsConsole 224#8 37#8) ∧
      (base.Permits 224#8 false ∧ stranger.service.authorised = [] ∧ restarting.service.restart ≠ none) ∧
      status base = some .badArgument ∧ status (withMode .unconfigured base) = some .unconfigured ∧
      status stranger = some .refusedSource ∧ status restarting = some .busy :=
  ⟨⟨hears_console _ (by decide +kernel), hears_console _ (by decide +kernel), hears_console _ (by decide +kernel),
      hears_console _ (by decide +kernel)⟩,
    ⟨permits _ false (by decide +kernel), rfl, by decide +kernel⟩, by decide +kernel⟩

/-! The record memory. -/
theorem witness_MemoryIsGrantedInTurn (turn : Requester) :
    (busy turn).powered = true ∧ (busy turn).sup.mode ≠ .loading ∧ (busy turn).mem.txn = none ∧ (busy turn).TablesWhole ∧
      (busy turn).mem.appender ≠ [] ∧ ((busy turn).group 3).dirty = true ∧
      (2 ∈ (busy turn).mem.fillPending ∧ ∀ l ∈ (busy turn).mem.appender, l.lum ≠ 2) := by
  refine ⟨rfl, nofun, rfl, whole_of ⟨rfl, ?_, rfl⟩, nofun, ?_, by cases turn <;> decide, by cases turn <;> decide⟩
  · cases turn <;> decide +kernel
  · cases turn <;> decide +kernel
theorem witness_MemoryIsGrantedInTurn_none :
    base.mem.appender = [] ∧ (∀ g, g < 24 → (base.group g).dirty = false) ∧ (∀ n, n < 128 → (base.lum n).dirty = false) ∧
      base.mem.fillPending = [] ∧ ((base.modLum 127 (fun l => { l with dirty := true })).lum 127).dirty = true := by
  decide +kernel
theorem witness_MemoryTransactionsComplete :
    ((writing (.flushGroup 23 0x04E0 [0x01#8])).mem.txn = some (.flushGroup 23 0x04E0 [0x01#8])) ∧
      ((writing (.flushLum 127 0x17E0 [0x01#8])).mem.txn = some (.flushLum 127 0x17E0 [0x01#8])) ∧
      ((writing (.append (historyLine 2) 0x2130 [0x05#8])).mem.txn = some (.append (historyLine 2) 0x2130 [0x05#8])) ∧
      (historyLine 2).lum < (writing (.append (historyLine 2) 0x2130 [0x05#8])).lums.length ∧
      ((writing (.fill 2 true)).mem.txn = some (.fill 2 true)) ∧ (writing (.fill 2 false)).powered = true := by decide +kernel

end Sys2Proof.Tests
end

namespace Sys2Proof.Machine

/-! ## The claim law (R26) -/

/-- R26 for one group: its claim record and its state agree. -/
def Group.ClaimFits (gr : Group) : Prop :=
  match gr.claim with
  | some c => gr.state = c.phase.state
  | none => gr.state.reduced = false

/-- R26 for every group. A structure, where `State.ClaimLaw` is a bare `∀`, so that no elaboration step unfolds it. -/
structure State.ClaimsFit (s : State) : Prop where
  fits : ∀ g, (s.group g).ClaimFits

theorem State.claimLaw_iff (s : State) : s.ClaimLaw ↔ s.ClaimsFit := ⟨fun h => ⟨h⟩, fun h => h.fits⟩

theorem Group.claimFits_none {gr : Group} (hc : gr.claim = none) (hs : gr.state.reduced = false) : gr.ClaimFits := by
  unfold Group.ClaimFits
  rw [hc]
  exact hs

theorem Group.claimFits_some {gr : Group} {c : ClaimRecord} (hc : gr.claim = some c) (hs : gr.state = c.phase.state) :
    gr.ClaimFits := by
  unfold Group.ClaimFits
  rw [hc]
  exact hs

theorem Phase.state_reduced (p : Phase) : p.state.reduced = true := by cases p <;> rfl

/-- A group of the own reduced set that fits has a claim record. -/
theorem Group.ClaimFits.claim_of_reduced {gr : Group} (h : gr.ClaimFits) (hr : gr.state.reduced = true) :
    ∃ c, gr.claim = some c ∧ gr.state = c.phase.state := by
  unfold Group.ClaimFits at h
  split at h
  · exact ⟨_, ‹_›, h⟩
  · rw [hr] at h
    cases h

theorem Group.ClaimFits.claim_none {gr : Group} (h : gr.ClaimFits) (hr : gr.state.reduced = false) : gr.claim = none := by
  unfold Group.ClaimFits at h
  split at h
  · rw [h, Phase.state_reduced] at hr
    cases hr
  · assumption

/-- A change that keeps the state and maps the claim record, keeping its phase. -/
theorem Group.ClaimFits.map {gr hr : Group} (h : gr.ClaimFits) (f : ClaimRecord → ClaimRecord)
    (hf : ∀ c, (f c).phase = c.phase) (hc : hr.claim = gr.claim.map f) (hs : hr.state = gr.state) : hr.ClaimFits := by
  unfold Group.ClaimFits at h ⊢
  rw [hc, hs]
  cases e : gr.claim with
  | none => rw [e] at h; exact h
  | some c => rw [e] at h; simpa only [Option.map_some, hf] using h

theorem Group.ClaimFits.same {gr hr : Group} (h : gr.ClaimFits) (hc : hr.claim = gr.claim) (hs : hr.state = gr.state) :
    hr.ClaimFits := h.map id (fun _ => rfl) (by simpa using hc) hs

theorem Group.empty_claimFits : Group.empty.ClaimFits := rfl

/-! ### Ways to keep it -/

theorem State.ClaimsFit.of_groups {s t : State} (h : s.ClaimsFit) (e : t.groups = s.groups) : t.ClaimsFit where
  fits g := by
    rw [State.group_of_groups e]
    exact h.fits g

theorem State.ClaimsFit.of_keeps {a : List Part} {s t : State} (h : s.ClaimsFit) (k : Keeps a s t) (ha : Part.groups ∉ a) :
    t.ClaimsFit := h.of_groups (k .groups ha)

theorem State.ClaimsFit.modGroup {s : State} (h : s.ClaimsFit) (g : Nat) (f : Group → Group)
    (hf : (s.group g).ClaimFits → (f (s.group g)).ClaimFits) : (s.modGroup g f).ClaimsFit where
  fits k := State.group_modGroup_ind (P := Group.ClaimFits) s g k f (h.fits k) hf

/-- Every entry of a table that fits after an update of one of its entries: the others stay. -/
theorem State.ClaimsFit.of_others {s t : State} {g : Nat} (h : s.ClaimsFit) (ho : ∀ k, k ≠ g → t.group k = s.group k)
    (hg : (t.group g).ClaimFits) : t.ClaimsFit where
  fits k := by
    by_cases e : k = g
    · rw [e]; exact hg
    · rw [ho k e]; exact h.fits k

theorem State.ClaimsFit.foldl {α : Type} {f : State → α → State} (hf : ∀ s x, s.ClaimsFit → (f s x).ClaimsFit) (l : List α)
    {s : State} (h : s.ClaimsFit) : (l.foldl f s).ClaimsFit := by
  induction l generalizing s with
  | nil => exact h
  | cons x xs ih => exact ih (hf s x h)

/-- A table of groups that is changed entry by entry. -/
theorem State.ClaimsFit.map {s : State} (h : s.ClaimsFit) (f : Group → Group) (hf : ∀ gr : Group, gr.ClaimFits → (f gr).ClaimFits) :
    State.ClaimsFit { s with groups := s.groups.map f } where
  fits g := by
    have hg := h.fits g
    unfold State.group at hg ⊢
    by_cases hl : g < s.groups.length
    · simp only [List.getD_eq_getElem?_getD, List.getElem?_map, List.getElem?_eq_getElem hl, Option.map_some,
        Option.getD_some] at hg ⊢
      exact hf _ hg
    · simp only [List.getD_eq_getElem?_getD, List.getElem?_map, List.getElem?_eq_none (Nat.le_of_not_lt hl), Option.map_none,
        Option.getD_none]
      exact Group.empty_claimFits

theorem State.ClaimsFit.ite {c : Prop} [Decidable c] {s t : State} (ht : t.ClaimsFit) (hs : s.ClaimsFit) :
    State.ClaimsFit (if c then t else s) := by
  split
  · exact ht
  · exact hs

/-! ### The operations that touch the groups -/

theorem evalOverrun_claimsFit {s : State} (h : s.ClaimsFit) : (evalOverrun s).ClaimsFit :=
  h.of_keeps (evalOverrun_keeps s) (by decide)

theorem startRefresh_claimsFit (g : Nat) {s : State} (h : s.ClaimsFit) : (startRefresh g s).ClaimsFit :=
  h.modGroup g _ fun hg => hg.map (fun c => { c with refresh := some 60 }) (fun _ => rfl) rfl rfl

theorem queueClaim_claimsFit (g : Nat) {s : State} (h : s.ClaimsFit) : (queueClaim g s).ClaimsFit :=
  h.of_keeps (queueClaim_keeps g s) (by decide)

theorem yieldGroup_claimsFit (g : Nat) {s : State} (h : s.ClaimsFit) : (s.yieldGroup g).ClaimsFit :=
  h.modGroup g _ fun _ => Group.claimFits_none rfl rfl

theorem withdrawQuiet_claimsFit (g : Nat) (r : Option Reason) {s : State} (h : s.ClaimsFit) : (withdrawQuiet g r s).ClaimsFit := by
  have hp := h.of_keeps (removeProposal_keeps g s) (by decide)
  unfold withdrawQuiet
  split
  · split
    · exact yieldGroup_claimsFit g (hp.of_keeps (offer_keeps _ _) (by decide))
    · exact yieldGroup_claimsFit g hp
  · exact h

theorem withdraw_claimsFit (g : Nat) (r : Option Reason) {s : State} (h : s.ClaimsFit) : (withdraw g r s).ClaimsFit := by
  unfold withdraw
  split
  · exact evalOverrun_claimsFit (withdrawQuiet_claimsFit g r h)
  · exact h

theorem withdrawAll_claimsFit (r : Option Reason) {s : State} (h : s.ClaimsFit) : (withdrawAll r s).ClaimsFit :=
  State.ClaimsFit.foldl (fun _ g => withdraw_claimsFit g r) _ h

/-- R44: a released group is IDLE or DUE and has no claim record. -/
theorem releaseGroup_claimsFit (g : Nat) {s : State} (h : s.ClaimsFit) : (releaseGroup g s).ClaimsFit := by
  have ht := (h.of_keeps (removeWaiting_keeps (TxFrame.claimOf g) s) (by decide)).of_keeps
    (offer_keeps (.release g .complete) _) (by decide)
  refine evalOverrun_claimsFit (ht.modGroup g _ fun _ => Group.claimFits_none rfl ?_)
  show GState.reduced (ite _ _ _) = false
  split <;> rfl

theorem Group.finish_state (gr : Group) (r : GResult) (k : Nat) : (gr.finish r k).state = .recovering := by cases r <;> rfl

theorem Group.finish_claim (gr : Group) (r : GResult) (k : Nat) : (gr.finish r k).claim = gr.claim := by cases r <;> rfl

/-- R43: the end of a TESTING group's test takes its claim record to RECOVERING with it. -/
theorem finishTest_claimsFit (g : Nat) (r : GResult) (k : Nat) (e : Event) {s : State} (h : s.ClaimsFit)
    (ht : (s.group g).state = .testing) : (finishTest g r k e s).ClaimsFit := by
  have hg : g < s.groups.length := by
    refine Nat.lt_of_not_le fun hl => ?_
    rw [State.group_outside s g hl] at ht
    cases ht
  obtain ⟨c, hc, -⟩ := Group.ClaimFits.claim_of_reduced (h.fits g) (by rw [ht]; rfl)
  refine h.of_others (fun j hj => finishTest_group_ne g j r k e s hj) ?_
  rw [finishTest_group g r k e s hg]
  refine Group.claimFits_some (c := { c with phase := .recovering, hold := none, refresh := some 60 }) ?_ ?_
  · simp [Group.finish_claim, hc]
  · exact Group.finish_state (s.group g) r k

theorem checkConclusion_claimsFit (g : Nat) {s : State} (h : s.ClaimsFit) : (checkConclusion g s).ClaimsFit := by
  unfold checkConclusion
  simp only
  split
  · rename_i c
    exact finishTest_claimsFit g _ _ _ h c.1
  · exact h

theorem captureFirst_claimsFit (g n : Nat) {s : State} (h : s.ClaimsFit) : (captureFirst g n s).ClaimsFit :=
  h.modGroup g _ fun hg => hg.same rfl rfl

theorem failMember_claimsFit (g n : Nat) (st : TestState) (k : Nat) {s : State} (h : s.ClaimsFit) :
    (failMember g n st k s).ClaimsFit := captureFirst_claimsFit g n (h.of_keeps (modLum_keeps n _ s) (by decide))

theorem roundMember_claimsFit (g n : Nat) {s : State} (h : s.ClaimsFit) : (roundMember g s n).ClaimsFit := by
  unfold roundMember
  simp only
  split
  · split
    · split <;> exact h.of_keeps (modLum_keeps n _ s) (by decide)
    · split
      · exact h
      · exact failMember_claimsFit g n _ _ h
  · split
    · exact h
    · exact h.of_keeps (modLum_keeps n _ s) (by decide)
  · exact h

theorem pollMembers_claimsFit (g : Nat) {s : State} (h : s.ClaimsFit) : (pollMembers g s).ClaimsFit :=
  checkConclusion_claimsFit g (State.ClaimsFit.foldl (fun _ n => roundMember_claimsFit g n) _ h)

theorem startTest_claimsFit (g : Nat) {s : State} (h : s.ClaimsFit) : (startTest g s).ClaimsFit := by
  refine pollMembers_claimsFit g (State.ClaimsFit.of_keeps ?_ (Keeps.foldl (fun t n => enterMember_keeps n t) _ _) (by decide))
  exact h.modGroup g _ fun hg => hg.same rfl rfl

/-- R41: a PROPOSED group that enters TESTING takes its claim record with it. -/
theorem enterTesting_claimsFit (g : Nat) {s : State} (h : s.ClaimsFit) (hp : (s.group g).state = .proposed) :
    (enterTesting g s).ClaimsFit := by
  obtain ⟨c, hc, -⟩ := Group.ClaimFits.claim_of_reduced (h.fits g) (by rw [hp]; rfl)
  have ht := startTest_claimsFit g (h.modGroup g (fun gr =>
    { gr.enter .testing with
      forced := false, claim := gr.claim.map (fun c => { c with phase := .testing, hold := none }) }) fun _ => by
        refine Group.claimFits_some (c := { c with phase := .testing, hold := none }) ?_ rfl
        simp [hc])
  unfold enterTesting
  simp only
  split
  · exact startRefresh_claimsFit g (queueClaim_claimsFit g ht)
  · exact ht

theorem endTest_claimsFit (g : Nat) (r : GResult) (owed : Bool) {s : State} (h : s.ClaimsFit) : (endTest g r owed s).ClaimsFit := by
  unfold endTest
  simp only
  split
  · rename_i ht
    have k := Keeps.foldl (fun t n => abortMember_keeps owed n t) (s.group g).defn.members s
    exact finishTest_claimsFit g _ _ _ (h.of_keeps k (by decide)) (by rw [State.group_of_groups (k .groups (by decide))]; exact ht)
  · exact h

theorem endAllTests_claimsFit (r : GResult) (owed : Bool) {s : State} (h : s.ClaimsFit) : (endAllTests r owed s).ClaimsFit :=
  State.ClaimsFit.foldl (fun _ g => endTest_claimsFit g r owed) _ h

theorem startOutcome_claimsFit (g n : Nat) (r : Option LoopReply) {s : State} (h : s.ClaimsFit) : (startOutcome g n r s).ClaimsFit := by
  have missed : ∀ t : State, t.ClaimsFit → (startMissed g n t).ClaimsFit := fun t ht => by
    unfold startMissed
    split
    · exact failMember_claimsFit g n _ _ ht
    · exact ht
  refine checkConclusion_claimsFit g ?_
  split
  · have hk := h.of_keeps (keepGood_keeps n ‹_› s) (by decide)
    split
    · exact hk.of_keeps (modLum_keeps n _ _) (by decide)
    · exact missed _ hk
  · exact missed _ h

theorem probeOutcome_claimsFit (g n : Nat) (r : Option LoopReply) {s : State} (h : s.ClaimsFit) : (probeOutcome g n r s).ClaimsFit := by
  unfold probeOutcome
  split
  · have hk := h.of_keeps (keepGood_keeps n ‹_› s) (by decide)
    split
    · exact checkConclusion_claimsFit g hk
    · exact checkConclusion_claimsFit g (failMember_claimsFit g n _ _ hk)
  · split
    · exact checkConclusion_claimsFit g (failMember_claimsFit g n _ _ h)
    · exact h

theorem testOutcome_claimsFit (n : Nat) (c : LoopCommand) (r : Option LoopReply) {s : State} (h : s.ClaimsFit) :
    (testOutcome n c r s).ClaimsFit := by
  unfold testOutcome
  split
  · exact h.of_keeps (modLum_keeps n _ s) (by decide)
  · exact startOutcome_claimsFit _ n r h
  · exact probeOutcome_claimsFit _ n r h
  · exact h

theorem completeLoop_claimsFit (b : BranchId) (x : LoopTxn) (r : Option LoopReply) {s : State} (h : s.ClaimsFit) :
    (completeLoop b x r s).ClaimsFit := by
  have hu := ((h.of_keeps (setBranch_keeps b { s.branch b with txn := none } s) (by decide)).of_keeps
    (updatePresence_keeps x.lum r _) (by decide)).of_keeps (updateWindow_keeps b x.lum r.isSome _) (by decide)
  unfold completeLoop
  simp only
  split
  · exact testOutcome_claimsFit _ _ _ hu
  · exact hu.of_keeps (slotReport_keeps _ _) (by decide)
  · exact hu.of_keeps (sweepReport_keeps _ _ _) (by decide)

/-! ### Judgement and the view -/

theorem judgeGroup_claimsFit (j : Judged) (g : Nat) {s : State} (h : s.ClaimsFit) : (judgeGroup j s g).ClaimsFit := by
  unfold judgeGroup
  split
  · unfold judgeProposed
    split
    · exact withdrawQuiet_claimsFit g _ h
    · exact h
  · unfold judgeTesting
    split
    · exact h
    · refine State.ClaimsFit.of_keeps ?_ (raise_keeps _ _ _) (by decide)
      split
      · exact endTest_claimsFit g _ _ h
      · exact h
  · unfold judgeRecovering
    split
    · exact h
    · exact h.of_keeps (raise_keeps _ _ s) (by decide)
  · exact h

theorem contestGroup_claimsFit (g : Nat) {s : State} (h : s.ClaimsFit) : (contestGroup s g).ClaimsFit := by
  unfold contestGroup
  split
  · exact withdrawQuiet_claimsFit g _ h
  · exact h

theorem loadSteps_claimsFit {s : State} (h : s.ClaimsFit) : (loadSteps s).ClaimsFit :=
  evalOverrun_claimsFit (State.ClaimsFit.foldl (fun _ g => contestGroup_claimsFit g) _ h)

theorem judge_claimsFit (j : Judged) {s : State} (h : s.ClaimsFit) : (judge j s).ClaimsFit :=
  loadSteps_claimsFit (State.ClaimsFit.foldl (fun _ g => judgeGroup_claimsFit j g) _ h)

theorem setView_claimsFit (v : List Entry) {s : State} (h : s.ClaimsFit) : (s.setView v).ClaimsFit :=
  h.of_keeps (setView_keeps v s) (by decide)

theorem takeClaim_claimsFit (x : Nat) (c : ClaimFrame) {s : State} (h : s.ClaimsFit) : (takeClaim x c s).ClaimsFit := by
  unfold takeClaim
  simp only
  split
  · exact judge_claimsFit _ (setView_claimsFit _ h)
  · split
    · exact judge_claimsFit _ (setView_claimsFit _ h)
    · exact judge_claimsFit _ (h.of_keeps (viewFull_keeps _ s) (by decide))

theorem removeEntry_claimsFit (x g : Nat) {s : State} (h : s.ClaimsFit) : (removeEntry x g s).ClaimsFit := by
  unfold removeEntry
  split
  · exact loadSteps_claimsFit (setView_claimsFit _ h)
  · exact h

theorem takeBeacon_claimsFit (x : Nat) (b : BeaconFrame) {s : State} (h : s.ClaimsFit) : (takeBeacon x b s).ClaimsFit := by
  have placed : ∀ v, ((firstPairs b.claims).foldl (addPlaceholder x) (s.setView v)).ClaimsFit := fun v =>
    State.ClaimsFit.foldl (fun t p ht => ht.of_keeps (addPlaceholder_keeps x p t) (by decide)) _ (setView_claimsFit v h)
  have removed : ∀ (l : List Entry) (t : State), t.ClaimsFit → (l.foldl (fun w _ => loadSteps w) t).ClaimsFit := fun l _ =>
    State.ClaimsFit.foldl (fun _ _ => loadSteps_claimsFit) l
  have reported : ∀ (l : List Judged) (t : State), t.ClaimsFit → (l.foldl (fun w j => judge j w) t).ClaimsFit := fun l _ =>
    State.ClaimsFit.foldl (fun _ j => judge_claimsFit j) l
  unfold takeBeacon
  simp only
  split
  · exact reported _ _ (removed _ _ (setView_claimsFit _ (placed _)))
  · exact loadSteps_claimsFit (reported _ _ (removed _ _ (setView_claimsFit _ (placed _))))

theorem removeEnded_claimsFit {s : State} (h : s.ClaimsFit) : (removeEnded s).ClaimsFit :=
  State.ClaimsFit.foldl (fun _ (e : Entry) => removeEntry_claimsFit e.station e.group) _ h

/-! ### The supervisor and the delivery of frames -/

theorem enterListening_claimsFit {s : State} (h : s.ClaimsFit) : (enterListening s).ClaimsFit :=
  withdrawAll_claimsFit _ (h.of_keeps (setSup_keeps _ s) (by decide))

theorem announceRestored_claimsFit {s : State} (h : s.ClaimsFit) : (announceRestored s).ClaimsFit :=
  State.ClaimsFit.foldl (fun _ g ht => startRefresh_claimsFit g (queueClaim_claimsFit g ht)) _ h

theorem firstListening_claimsFit {s : State} (h : s.ClaimsFit) : (firstListening s).ClaimsFit := by
  refine State.ClaimsFit.of_keeps (announceRestored_claimsFit ?_) (startSweep_keeps _) (by decide)
  exact ((enterListening_claimsFit h).of_keeps (setBeacon_keeps _ _) (by decide)).of_keeps (offerBeacon_keeps _) (by decide)

theorem enterIsolatedSilence_claimsFit {s : State} (h : s.ClaimsFit) : (enterIsolatedSilence s).ClaimsFit := by
  unfold enterIsolatedSilence
  have ht := withdrawAll_claimsFit (some .withdrawn) ((h.of_keeps (setSup_keeps
    ({ s.sup with mode := .isolated, reason := .silence, listen := none, clear := none, fallback := some 0 }).countIsolation s)
      (by decide)).of_keeps (raise_keeps .isolated noDetail _) (by decide))
  simp only
  split
  · exact ht.of_keeps (enterStandalone_keeps _) (by decide)
  · exact ht

theorem stationFrame_claimsFit {s : State} (h : s.ClaimsFit) : (stationFrame s).ClaimsFit := by
  have hs := h.of_keeps (setSup_keeps { s.sup with silence := some (s.figures.silence * 60) } s) (by decide)
  unfold stationFrame
  simp only
  split
  · split
    · exact enterListening_claimsFit hs
    · exact hs
  · exact h

theorem deliver_claimsFit (src dst : Byte) {f : State → State} (hf : ∀ t, t.ClaimsFit → (f t).ClaimsFit) {s : State}
    (h : s.ClaimsFit) : (deliver src dst f s).ClaimsFit := by
  have hr := h.of_keeps (receiverIdle_keeps s) (by decide)
  unfold deliver
  split
  · split
    · refine hf _ ?_
      split
      · exact stationFrame_claimsFit hr
      · exact hr
    · exact hr
  · exact h

theorem deliverProtocol_claimsFit (src dst : Byte) {f : State → State} (hf : ∀ t, t.ClaimsFit → (f t).ClaimsFit) {s : State}
    (h : s.ClaimsFit) : (deliverProtocol src dst f s).ClaimsFit := by
  unfold deliverProtocol
  split
  · exact (h.of_keeps (receiverIdle_keeps s) (by decide)).of_keeps (countClash_keeps _) (by decide)
  · refine deliver_claimsFit src dst (fun t ht => ?_) h
    split
    · exact hf t ht
    · exact ht

theorem cutDriver_claimsFit {s : State} (h : s.ClaimsFit) : (cutDriver s).ClaimsFit := by
  refine State.ClaimsFit.of_keeps (endAllTests_claimsFit _ _ (withdrawAll_claimsFit _ ?_)) (enterIsolatedDriver_keeps _) (by decide)
  exact ((h.of_keeps (emptyQueue_keeps s) (by decide)).of_keeps (setLine_keeps _ _) (by decide)).of_keeps
    (raise_keeps _ _ _) (by decide)

theorem mainsOff_claimsFit {s : State} (h : s.ClaimsFit) : (mainsOff s).ClaimsFit := by
  refine endAllTests_claimsFit _ _ (withdrawAll_claimsFit _ ?_)
  exact (h.of_keeps (setInputs_keeps _ s) (by decide)).of_keeps (raise_keeps _ _ _) (by decide)

/-! ### The line -/

theorem startHold_claimsFit (f : TxFrame) {s : State} (h : s.ClaimsFit) : (startHold f s).ClaimsFit := by
  unfold startHold
  split
  · split
    · exact h.modGroup _ _ fun hg => hg.map _ (fun c => by split <;> rfl) rfl rfl
    · exact h
  · exact h

theorem dropFrame_claimsFit (c : Current) {s : State} (h : s.ClaimsFit) : (dropFrame c s).ClaimsFit := by
  have hd := (h.of_keeps (dropCurrent_keeps s) (by decide)).of_keeps (raise_keeps .txDropped (kindDetail c.frame.kind) _)
    (by decide)
  unfold dropFrame dropReported
  split
  · split
    · exact withdraw_claimsFit _ _ hd
    · exact hd
  · exact hd

/-! ### The pass and the load -/

theorem overdueGroup_claimsFit (g : Nat) {s : State} (h : s.ClaimsFit) : (overdueGroup s g).ClaimsFit := by
  unfold overdueGroup
  simp only
  split
  · have hm : ∀ f : Group → Bool, (s.modGroup g (fun gr => { gr with overdue := f gr })).ClaimsFit := fun f =>
      h.modGroup g _ fun hg => hg.same rfl rfl
    split
    · exact (hm _).of_keeps (raise_keeps _ _ _) (by decide)
    · exact hm _
  · exact h

/-- R5, step 4: only a group outside the own reduced set moves, and it stays outside. -/
theorem Group.ClaimFits.move {gr : Group} (h : gr.ClaimFits) : gr.move.ClaimFits := by
  unfold Group.move
  split
  · rename_i hs
    split
    · exact h
    · exact Group.claimFits_none (h.claim_none (by rw [hs]; rfl)) rfl
  · rename_i hs
    split
    · exact Group.claimFits_none (h.claim_none (by rw [hs]; rfl)) rfl
    · exact h
  · exact h

theorem rankGroups_claimsFit {s : State} (h : s.ClaimsFit) : (rankGroups s).ClaimsFit := by
  refine State.ClaimsFit.map (State.ClaimsFit.foldl (fun _ g => overdueGroup_claimsFit g) _ ?_) _ fun _ hg => hg.move
  refine h.map _ fun gr hg => ?_
  unfold State.rank
  split
  · exact hg.same rfl rfl
  · exact hg

theorem writeNotes_group (s : State) (g : Nat) :
    (writeNotes s).group g = { s.group g with note := ((writeNotes s).group g).note } := by
  unfold writeNotes State.group
  by_cases hl : g < s.groups.length
  · simp [List.getD_eq_getElem?_getD, List.getElem?_eq_getElem hl]
  · simp [List.getD_eq_getElem?_getD, List.getElem?_eq_none (Nat.le_of_not_lt hl)]

theorem writeNotes_claimsFit {s : State} (h : s.ClaimsFit) : (writeNotes s).ClaimsFit where
  fits g := (h.fits g).same (by rw [writeNotes_group]) (by rw [writeNotes_group])

theorem propose_claimsFit (g : Nat) {s : State} (h : s.ClaimsFit) : (propose g s).ClaimsFit :=
  evalOverrun_claimsFit (queueClaim_claimsFit g (h.modGroup g _ fun _ => Group.claimFits_some rfl rfl))

theorem schedulePass_claimsFit {s : State} (h : s.ClaimsFit) : (schedulePass s).ClaimsFit := by
  have hu := writeNotes_claimsFit (rankGroups_claimsFit h)
  unfold schedulePass
  simp only
  split
  · exact propose_claimsFit _ hu
  · exact hu

theorem minute_claimFits {gr : Group} (h : gr.ClaimFits) : gr.minute.ClaimFits := by
  unfold Group.minute
  split
  · exact h.same rfl rfl
  · exact h

theorem placeDefs_getD (grs : List Group) (ds : List GroupDef) (g : Nat) :
    (placeDefs grs ds).getD g Group.empty =
      { grs.getD g Group.empty with defn := ((placeDefs grs ds).getD g Group.empty).defn } := by
  induction grs generalizing ds g with
  | nil => cases ds <;> simp [placeDefs]
  | cons gr grs ih =>
    cases ds with
    | nil => simp [placeDefs]
    | cons d ds =>
      cases g with
      | zero => simp [placeDefs]
      | succ g => simpa [placeDefs] using ih ds g

theorem goodConfig_claimsFit (bytes : List Byte) {s : State} (h : s.ClaimsFit) : (goodConfig bytes s).ClaimsFit := by
  unfold goodConfig routeCheck
  refine State.ClaimsFit.foldl (fun t n ht => ?_) _ ⟨fun g => (h.fits g).same ?_ ?_⟩
  · split
    · exact ht.of_keeps (raise_keeps _ _ t) (by decide)
    · exact ht
  all_goals
    simp only [State.group]
    rw [placeDefs_getD]

theorem configRead_claimsFit (bytes : List Byte) {s : State} (h : s.ClaimsFit) : (configRead bytes s).ClaimsFit := by
  unfold configRead
  refine State.ClaimsFit.of_groups ?_ rfl (s := if crc16Good bytes then goodConfig bytes s else s)
  split
  · exact goodConfig_claimsFit bytes h
  · exact h

/-- R26, R156: every way of restoring a group gives it the claim record of its state. -/
theorem restoreGroup_claimsFit (g : Nat) (r : Option GroupRecord) {s : State} (h : s.ClaimsFit) : (restoreGroup g r s).ClaimsFit := by
  unfold restoreGroup
  split
  · split
    · exact h.modGroup g _ fun _ => Group.claimFits_none rfl rfl
    · exact (h.modGroup g _ fun _ => Group.claimFits_some rfl rfl).of_groups rfl
    · exact (h.modGroup g _ fun _ => Group.claimFits_some rfl rfl).of_groups rfl
  · exact (h.modGroup g _ fun _ => Group.claimFits_some rfl rfl).of_groups rfl

theorem groupRead_claimsFit (g : Nat) (bytes : List Byte) {s : State} (h : s.ClaimsFit) : (groupRead g bytes s).ClaimsFit := by
  unfold groupRead
  split
  · exact (restoreGroup_claimsFit g _ h).of_groups rfl
  · exact h.of_groups rfl

theorem reportTime_keeps (s : State) : Keeps [.events] s (reportTime s) := by
  unfold reportTime
  split
  · exact Keeps.refl _ s
  · exact raise_keeps _ _ s

theorem loadedGood_claimsFit (f : Figures) {s : State} (h : s.ClaimsFit) : (loadedGood f s).ClaimsFit := by
  have ho : (handOver f s).ClaimsFit := h.of_groups rfl
  refine firstListening_claimsFit (evalOverrun_claimsFit (State.ClaimsFit.of_keeps ?_ (reportTime_keeps _) (by decide)))
  exact ho.of_keeps (Keeps.foldl (fun t r => restoreTest_keeps r t) _ _) (by decide)

theorem loadedBad_claimsFit {s : State} (h : s.ClaimsFit) : (loadedBad s).ClaimsFit := by
  unfold loadedBad
  refine State.ClaimsFit.of_keeps (State.ClaimsFit.of_keeps ?_ (raise_keeps _ _ _) (by decide)) (reportTime_keeps _) (by decide)
  exact h.of_groups rfl

theorem endLoading_claimsFit {s : State} (h : s.ClaimsFit) : (endLoading s).ClaimsFit := by
  unfold endLoading
  split
  · exact loadedGood_claimsFit _ h
  · exact loadedBad_claimsFit h

theorem restoreLum_keeps (n : Nat) (r : Option LumRecord) (s : State) : Keeps [.lums, .events] s (restoreLum n r s) := by
  unfold restoreLum
  simp only
  split
  · exact (modLum_keeps n _ s).mono (by decide)
  · split
    · exact ((modLum_keeps n _ s).mono (by decide)).trans ((raise_keeps _ _ _).mono (by decide))
    · exact (modLum_keeps n _ s).mono (by decide)

theorem lumRead_claimsFit (n : Nat) (bytes : List Byte) {s : State} (h : s.ClaimsFit) : (lumRead n bytes s).ClaimsFit := by
  have ht : (advanceLoader (if s.loader.figures.isSome then restoreLum n (LumRecord.read bytes) s else s)).ClaimsFit := by
    split
    · exact (h.of_keeps (restoreLum_keeps n _ s) (by decide)).of_groups rfl
    · exact h.of_groups rfl
  have key : ∀ t : State, t.ClaimsFit → State.ClaimsFit (if t.loader.next = .done then endLoading t else t) := fun t ht => by
    split
    · exact endLoading_claimsFit ht
    · exact ht
  exact key _ ht

/-- R126: after a reset no group is in the own reduced set and none has a claim record. -/
theorem initialise_claimsFit (k : Nat) (s : State) : (initialise k s).ClaimsFit where
  fits g := by
    show Group.ClaimFits ((List.replicate 24 Group.empty).getD g Group.empty)
    rw [List.getD_eq_getElem?_getD, List.getElem?_replicate]
    split <;> exact Group.empty_claimFits

/-! ### The service responder -/

theorem sendReply_claimsFit (src : Byte) (echo : List Byte) (b : Bool) {a : Answer} (h : a.state.ClaimsFit) :
    (sendReply src echo b a).ClaimsFit := h.of_keeps (offer_keeps _ _) (by decide)

theorem serve_claimsFit (src dst : Byte) {f : State → State} (hf : ∀ t, t.ClaimsFit → (f t).ClaimsFit) {s : State}
    (h : s.ClaimsFit) : (serve src dst f s).ClaimsFit :=
  deliver_claimsFit src dst (fun t ht => (hf t ht).ite ht) h

theorem judgeCommand_claimsFit (src : Byte) (b k : Bool) {carry : State → Option Answer} {s : State} (h : s.ClaimsFit)
    (hc : ∀ a, carry s = some a → a.state.ClaimsFit) : (judgeCommand src b k carry s).state.ClaimsFit := by
  unfold judgeCommand
  split
  · show (noteRefusal src _ s).ClaimsFit
    unfold noteRefusal
    split
    · exact h.of_keeps (raise_keeps _ _ s) (by decide)
    · exact h.of_keeps (raise_keeps _ _ s) (by decide)
    · exact h
  · cases e : carry s with
    | none => exact h
    | some a => exact hc a e

theorem answerCommand_claimsFit (src code : Byte) (k : Bool) (args : List Byte) {carry : State → Option Answer}
    (hc : ∀ t a, t.ClaimsFit → carry t = some a → a.state.ClaimsFit) {s : State} (h : s.ClaimsFit) :
    (answerCommand src code k args carry s).ClaimsFit :=
  sendReply_claimsFit src _ false (judgeCommand_claimsFit src false k h fun a => hc s a h)

theorem onGroup_claimsFit (args : List Byte) {f : Nat → State → Answer} (hf : ∀ g t, t.ClaimsFit → (f g t).state.ClaimsFit)
    (s : State) (a : Answer) (h : s.ClaimsFit) (e : onGroup args f s = some a) : a.state.ClaimsFit := by
  obtain ⟨g, -, rfl⟩ := Option.map_eq_some_iff.mp e
  split
  · exact hf g s h
  · exact h

theorem cancelGroup_claimsFit (g : Nat) (s : State) (h : s.ClaimsFit) : (cancelGroup g s).state.ClaimsFit := by
  unfold cancelGroup
  split
  · exact withdraw_claimsFit g _ h
  · exact endTest_claimsFit g _ _ h
  · exact h

theorem setTimeTo_groups (args : List Byte) (s : State) (a : Answer) (e : setTimeTo args s = some a) :
    a.state.groups = s.groups := by
  unfold setTimeTo at e
  split at e
  · split at e
    · cases e
    · cases e
      rfl
  · cases e

theorem judgeProbe_groups (src : Byte) (n : Nat) (s : State) : (judgeProbe src n s).state.groups = s.groups := by
  unfold judgeProbe
  split
  · rfl
  · split <;> rfl

theorem answerRestart_claimsFit (src : Byte) (args : List Byte) {s : State} (h : s.ClaimsFit) :
    (answerRestart src args s).ClaimsFit :=
  sendReply_claimsFit src _ _ (judgeCommand_claimsFit src true true h fun a e => by
    cases e
    exact h.of_groups rfl)

theorem answerUnknown_claimsFit (src : Byte) (k : ServiceKind) (payload : List Byte) {s : State} (h : s.ClaimsFit) :
    (answerUnknown src k payload s).ClaimsFit := by
  unfold answerUnknown
  split
  · exact sendReply_claimsFit src _ _ (h.of_groups rfl)
  · exact sendReply_claimsFit src _ _ (judgeCommand_claimsFit src _ _ (h.of_groups rfl) fun _ e => nomatch e)

/-- A QUERY's item changes no group. -/
theorem answerQuery_claimsFit (src code : Byte) (b : Bool) (args : List Byte) {item : Nat → Nat → State → Answer}
    (hi : ∀ i j t, (item i j t).state.groups = t.groups) {s : State} (h : s.ClaimsFit) :
    (answerQuery src code b args item s).ClaimsFit := by
  refine sendReply_claimsFit src _ _ (h.of_groups ?_)
  unfold judgeQuery
  split
  · split
    · rfl
    · exact hi _ _ _
  · rfl

theorem viewItem_groups (data : Nat → Nat → State → Option (List Byte)) (i j : Nat) (s : State) :
    (viewItem data i j s).state.groups = s.groups := by
  unfold viewItem dataAnswer
  split <;> rfl

theorem peerEntryAnswer_groups (i j : Nat) (s : State) : (peerEntryAnswer i j s).state.groups = s.groups := by
  unfold peerEntryAnswer
  split
  · split <;> rfl
  · rfl

theorem historyAnswer_groups (n k : Nat) (s : State) : (historyAnswer n k s).state.groups = s.groups := by
  unfold historyAnswer
  split
  · split
    · rfl
    · split
      · rfl
      · split
        · rfl
        · split <;> rfl
  · rfl

/-! ### Every command -/

theorem done_claimsFit {s t u : State} (e : done s u = .next t) (h : u.ClaimsFit) : t.ClaimsFit := by
  cases e
  exact h.of_groups rfl

theorem live_claimsFit {f : State → State} {s t : State} (h : s.ClaimsFit) (e : live s f = .next t) (hf : (f s).ClaimsFit) :
    t.ClaimsFit := done_claimsFit e (hf.ite h)

theorem query_claimsFit {src dst code : Byte} {b : Bool} {args : List Byte} {ms : Nat} {item : Nat → Nat → State → Answer}
    {s t : State} (h : s.ClaimsFit) (e : query src dst code b args ms item s = .next t)
    (hi : ∀ i j t, (item i j t).state.groups = t.groups) : t.ClaimsFit :=
  live_claimsFit h e (serve_claimsFit src dst (fun _ => answerQuery_claimsFit src code b args hi) (h.of_groups rfl))

theorem command_claimsFit {src dst code : Byte} {k : Bool} {args : List Byte} {ms : Nat} {carry : State → Option Answer}
    {s t : State} (h : s.ClaimsFit) (e : command src dst code k args ms carry s = .next t)
    (hc : ∀ t a, t.ClaimsFit → carry t = some a → a.state.ClaimsFit) : t.ClaimsFit :=
  live_claimsFit h e (serve_claimsFit src dst (fun _ => answerCommand_claimsFit src code k args hc) (h.of_groups rfl))


theorem holdExpired_proposed {s : State} {g : Nat} (h : s.holdExpired g = true) : (s.group g).state = .proposed := by
  unfold State.holdExpired at h
  split at h
  · assumption
  · cases h

theorem holdExpiry_claimsFit (g ms : Nat) {s : State} (h : s.ClaimsFit) :
    State.ClaimsFit
      (if s.holdExpired g then
        if s.holdChecks g then enterTesting g (s.atMs ms) else withdraw g (some .aborted) (s.atMs ms)
      else s) := by
  have ha : (s.atMs ms).ClaimsFit := h.of_groups rfl
  split
  · exact (enterTesting_claimsFit g ha (holdExpired_proposed ‹_›)).ite (withdraw_claimsFit g _ ha)
  · exact h

theorem endInstant_claimsFit (n ms : Nat) {s : State} (h : s.ClaimsFit) :
    ∀ o : Option Nat, State.ClaimsFit
      (match o with
        | some g => if (s.atMs ms).endReached g n then passMember g n (s.atMs ms) else s
        | none => s)
  | some _ =>
    State.ClaimsFit.ite (checkConclusion_claimsFit _ (h.of_groups rfl)) h
  | none => h

theorem clean_claimsFit (x : MemTxn) {s : State} (h : s.ClaimsFit) : (clean x s).ClaimsFit := by
  unfold clean
  split
  · exact h.modGroup _ _ fun hg => hg.same rfl rfl
  · exact h.of_keeps (modLum_keeps _ _ s) (by decide)
  · exact h

theorem grantMemory_claimsFit {s : State} (h : s.ClaimsFit) : (grantMemory s).ClaimsFit := by
  have hb : ∀ r x, (beginTxn r x s).ClaimsFit := fun _ x => (clean_claimsFit x h).of_groups rfl
  unfold grantMemory
  simp only
  split
  · exact hb _ _
  · exact hb _ _
  · exact hb _ _
  · exact h

theorem mainsOn_claimsFit {s : State} (h : s.ClaimsFit) : (mainsOn s).ClaimsFit := h.of_keeps (mainsOn_keeps s) (by decide)

/-- R26: a command that goes on from the claim law keeps it. -/
theorem exec_claimsFit (i : Instr) {s t : State} (h : s.ClaimsFit) (e : exec i s = .next t) : t.ClaimsFit := by
  have at_ : ∀ ms, (s.atMs ms).ClaimsFit := fun ms => h.of_groups rfl
  have drawn : ∀ (b : Bool) (u : State), u.ClaimsFit → (drawnWhileIdle b u).ClaimsFit := fun b u hu =>
    hu.of_keeps (drawnWhileIdle_keeps b u) (by decide)
  cases i with
  | powerOnReset => exact done_claimsFit e (initialise_claimsFit 0 s)
  | resetN => exact live_claimsFit h e (initialise_claimsFit 0 s)
  | oscillatorStop => exact done_claimsFit e (h.of_groups rfl)
  | configBlockRead answer => exact live_claimsFit h e (State.ClaimsFit.ite (configRead_claimsFit _ (h.of_groups rfl)) h)
  | groupRecordRead answer ms =>
    unfold exec execGroupRecordRead at e
    refine live_claimsFit h e ?_
    split
    · exact State.ClaimsFit.ite (groupRead_claimsFit _ _ (h.of_groups rfl)) h
    · exact h
  | luminaireRecordRead answer ms =>
    unfold exec execLuminaireRecordRead at e
    refine live_claimsFit h e ?_
    split
    · exact State.ClaimsFit.ite (lumRead_claimsFit _ _ (h.of_groups rfl)) h
    · exact h
  | tickSecond =>
    unfold exec execTickSecond at e
    refine live_claimsFit h e ?_
    have ht : (tickAll s).ClaimsFit :=
      (h.map Group.tick fun _ hg => hg.map ClaimRecord.tick (fun _ => rfl) rfl rfl).of_groups rfl
    exact State.ClaimsFit.ite (ht.of_groups rfl) ht
  | minuteTick =>
    refine live_claimsFit h e (State.ClaimsFit.ite ?_ h)
    refine State.ClaimsFit.of_groups (s := if s.inputs.mains = .on ∧ s.sup.mode ≠ .loading then
      { s with groups := s.groups.map Group.minute } else s) ?_ ?_
    · exact State.ClaimsFit.ite (h.map Group.minute fun _ => minute_claimFits) h
    · unfold minuteAll
      split <;> rfl
  | schedulingPass => exact live_claimsFit h e (State.ClaimsFit.ite (schedulePass_claimsFit (h.of_groups rfl)) h)
  | backoffExpiry g =>
    unfold exec execBackoffExpiry at e
    exact live_claimsFit h e h
  | holdExpiry g ms => exact live_claimsFit h e (holdExpiry_claimsFit g ms h)
  | pollRound g ms =>
    exact live_claimsFit h e
      (State.ClaimsFit.ite (pollMembers_claimsFit g ((at_ ms).modGroup g _ fun hg => hg.same rfl rfl)) h)
  | endInstant n ms =>
    unfold exec execEndInstant at e
    exact live_claimsFit h e (endInstant_claimsFit n ms h _)
  | refreshExpiry g ms =>
    exact live_claimsFit h e (State.ClaimsFit.ite (startRefresh_claimsFit g (queueClaim_claimsFit g (at_ ms))) h)
  | rechargeComplete g idle => exact live_claimsFit h e (State.ClaimsFit.ite (releaseGroup_claimsFit g (drawn _ _ h)) h)
  | beaconCountdownExpiry =>
    exact live_claimsFit h e (State.ClaimsFit.ite
      ((h.of_keeps (setBeacon_keeps _ s) (by decide)).of_keeps (offerBeacon_keeps _) (by decide)) h)
  | claimReceived src dst payload ms =>
    unfold exec execClaimReceived at e
    refine live_claimsFit h e (deliverProtocol_claimsFit src dst (fun u hu => ?_) (at_ ms))
    split
    · exact takeClaim_claimsFit _ _ hu
    · exact hu
  | releaseReceived src dst payload ms =>
    unfold exec execReleaseReceived at e
    refine live_claimsFit h e (deliverProtocol_claimsFit src dst (fun u hu => ?_) (at_ ms))
    split
    · exact removeEntry_claimsFit _ _ hu
    · exact hu
  | beaconReceived src dst payload ms =>
    unfold exec execBeaconReceived at e
    refine live_claimsFit h e (deliverProtocol_claimsFit src dst (fun u hu => ?_) (at_ ms))
    split
    · exact State.ClaimsFit.ite ((takeBeacon_claimsFit _ _ hu).of_groups rfl) (takeBeacon_claimsFit _ _ hu)
    · exact hu
  | otherFrameReceived src dst kind ms =>
    unfold exec execOtherFrameReceived at e
    exact live_claimsFit h e (State.ClaimsFit.ite h (deliver_claimsFit src dst (fun _ hu => hu) (at_ ms)))
  | rxFrameBroken how chars =>
    exact live_claimsFit h e (State.ClaimsFit.ite (State.ClaimsFit.ite (h.of_groups rfl) (h.of_groups rfl)) h)
  | entryAgeOut =>
    unfold exec execEntryAgeOut at e
    refine live_claimsFit h e ?_
    split
    · exact removeEntry_claimsFit _ _ h
    · exact h
  | peerRechargeEnd => exact live_claimsFit h e (removeEnded_claimsFit h)
  | overflowHoldExpiry => exact live_claimsFit h e (State.ClaimsFit.ite (h.of_groups rfl) h)
  | listenExpiry => exact live_claimsFit h e (State.ClaimsFit.ite (h.of_groups rfl) h)
  | clearTimerExpiry => exact live_claimsFit h e (State.ClaimsFit.ite (h.of_groups rfl) h)
  | silenceExpiry idle => exact live_claimsFit h e (State.ClaimsFit.ite (enterIsolatedSilence_claimsFit (drawn _ _ h)) h)
  | fallbackExpiry => exact live_claimsFit h e (State.ClaimsFit.ite (h.of_keeps (enterStandalone_keeps s) (by decide)) h)
  | driverCut bits ms => exact live_claimsFit h e (State.ClaimsFit.ite (cutDriver_claimsFit (at_ ms)) h)
  | driverReenable =>
    exact live_claimsFit h e (State.ClaimsFit.ite
      (State.ClaimsFit.ite (enterListening_claimsFit (h.of_groups rfl)) (h.of_groups rfl)) h)
  | lineHeld bits => exact live_claimsFit h e (State.ClaimsFit.ite (h.of_groups rfl) h)
  | lineHeldCleared bits => exact live_claimsFit h e (State.ClaimsFit.ite (h.of_groups rfl) h)
  | txAttemptStart =>
    have hd := h.of_keeps (drawIfNone_keeps s) (by decide)
    refine live_claimsFit h e (State.ClaimsFit.ite ?_ h)
    unfold startAttempt
    split
    · exact hd.of_groups rfl
    · split
      · exact hd.of_groups rfl
      · exact hd
  | txDefer =>
    have hd := h.of_keeps (drawIfNone_keeps s) (by decide)
    exact live_claimsFit h e (State.ClaimsFit.ite (hd.of_keeps (endSlotWait_keeps _) (by decide)) h)
  | txComplete =>
    unfold exec execTxComplete at e
    refine live_claimsFit h e ?_
    split
    · exact State.ClaimsFit.ite (startHold_claimsFit _ (h.of_keeps (dropCurrent_keeps s) (by decide))) h
    · exact h
  | txCollision =>
    unfold exec execTxCollision at e
    refine live_claimsFit h e ?_
    split
    · exact State.ClaimsFit.ite (State.ClaimsFit.ite (h.of_groups rfl) (dropFrame_claimsFit _ h)) h
    · exact h
  | branchGrant b => exact live_claimsFit h e (State.ClaimsFit.ite (h.of_keeps (grantBranch_keeps b s) (by decide)) h)
  | loopRetry b chars =>
    unfold exec execLoopRetry at e
    refine live_claimsFit h e ?_
    split
    · exact State.ClaimsFit.ite (h.of_keeps (setBranch_keeps b _ s) (by decide)) h
    · exact h
  | loopTransactionComplete b chars ms =>
    unfold exec execLoopTransactionComplete at e
    refine live_claimsFit h e ?_
    split
    · exact State.ClaimsFit.ite (completeLoop_claimsFit b _ _ (at_ ms)) h
    · exact h
  | sweepStart => exact live_claimsFit h e (State.ClaimsFit.ite (h.of_keeps (startSweep_keeps s) (by decide)) h)
  | msenseChange high ms =>
    exact done_claimsFit e (State.ClaimsFit.ite h (State.ClaimsFit.ite (h.of_groups rfl) (h.of_groups rfl)))
  | validatedOff ms idle => exact live_claimsFit h e (State.ClaimsFit.ite (mainsOff_claimsFit (drawn _ _ (at_ ms))) h)
  | validatedOn ms => exact live_claimsFit h e (State.ClaimsFit.ite (mainsOn_claimsFit (at_ ms)) h)
  | outageHoldExpiry =>
    unfold exec execOutageHoldExpiry at e
    exact live_claimsFit h e h
  | inhibitChange high ms =>
    exact done_claimsFit e (State.ClaimsFit.ite h (State.ClaimsFit.ite (h.of_groups rfl) (h.of_groups rfl)))
  | inhibitValidated ms => exact live_claimsFit h e (State.ClaimsFit.ite (h.of_groups rfl) h)
  | inhibitStuck => exact live_claimsFit h e (State.ClaimsFit.ite (h.of_groups rfl) h)
  | skeyChange high ms =>
    exact done_claimsFit e (State.ClaimsFit.ite h (State.ClaimsFit.ite (h.of_groups rfl) (h.of_groups rfl)))
  | skeyValidated ms => exact live_claimsFit h e (State.ClaimsFit.ite (h.of_groups rfl) h)
  | calendarAdvance => exact done_claimsFit e (h.of_groups rfl)
  | stationStatus src dst args ms => exact query_claimsFit h e (viewItem_groups _)
  | group src dst args ms => exact query_claimsFit h e (viewItem_groups _)
  | luminaire src dst args ms => exact query_claimsFit h e (viewItem_groups _)
  | history src dst args ms => exact query_claimsFit h e historyAnswer_groups
  | peerEntry src dst args ms => exact query_claimsFit h e peerEntryAnswer_groups
  | eventStatus src dst args ms => exact query_claimsFit h e (viewItem_groups _)
  | counters src dst args ms => exact query_claimsFit h e (viewItem_groups _)
  | setTime src dst args ms => exact command_claimsFit h e fun u a hu ha => hu.of_groups (setTimeTo_groups args u a ha)
  | hold src dst args ms =>
    exact command_claimsFit h e (onGroup_claimsFit args fun g _ hu =>
      withdraw_claimsFit g _ (hu.modGroup g _ fun hg => hg.same rfl rfl))
  | resume src dst args ms =>
    exact command_claimsFit h e (onGroup_claimsFit args fun g _ hu => hu.modGroup g _ fun hg => hg.same rfl rfl)
  | force src dst args ms =>
    exact command_claimsFit h e (onGroup_claimsFit args fun g _ hu => hu.modGroup g _ fun hg => hg.same rfl rfl)
  | cancel src dst args ms => exact command_claimsFit h e (onGroup_claimsFit args cancelGroup_claimsFit)
  | clearEvents src dst args ms =>
    refine command_claimsFit h e fun u a hu ha => ?_
    obtain ⟨n, -, rfl⟩ := Option.map_eq_some_iff.mp ha
    exact hu.of_groups rfl
  | clearIsolation src dst args ms =>
    refine command_claimsFit h e fun u a hu ha => ?_
    cases ha
    exact hu.of_groups rfl
  | probe src dst args ms =>
    refine command_claimsFit h e fun u a hu ha => ?_
    obtain ⟨n, -, rfl⟩ := Option.map_eq_some_iff.mp ha
    exact hu.of_groups (judgeProbe_groups src n u)
  | restart src dst args ms =>
    unfold exec execRestart at e
    exact live_claimsFit h e (serve_claimsFit src dst (fun _ => answerRestart_claimsFit src args) (at_ ms))
  | restartTaken => exact live_claimsFit h e (State.ClaimsFit.ite (initialise_claimsFit _ s) h)
  | memoryGrant => exact live_claimsFit h e (State.ClaimsFit.ite (grantMemory_claimsFit h) h)
  | flushComplete =>
    unfold exec execFlushComplete at e
    refine live_claimsFit h e ?_
    split <;> exact h.of_groups rfl
  | historyLineWritten =>
    unfold exec execHistoryLineWritten at e
    refine live_claimsFit h e ?_
    split <;> exact h.of_groups rfl
  | fillComplete answer =>
    unfold exec execFillComplete at e
    refine live_claimsFit h e ?_
    split
    · exact h.of_keeps (filled_keeps _ _ _ _ s) (by decide)
    · exact h
  | reportOffer =>
    unfold exec execReportOffer at e
    refine live_claimsFit h e ?_
    split
    · exact State.ClaimsFit.ite (h.of_groups (offer_keeps _ _ .groups (by decide))) h
    · exact h
  | rxFrameDiscarded chars =>
    refine live_claimsFit h e (State.ClaimsFit.ite ?_ h)
    unfold discardFrame
    exact State.ClaimsFit.ite (State.ClaimsFit.ite (h.of_groups rfl) (State.ClaimsFit.ite h (h.of_groups rfl)))
      (h.of_groups rfl)
  | unknownServiceCode src dst kind payload ms =>
    unfold exec execUnknownServiceCode at e
    exact live_claimsFit h e (State.ClaimsFit.ite h
      (serve_claimsFit src dst (fun _ => answerUnknown_claimsFit src kind payload) (at_ ms)))
  | powerLoss => exact live_claimsFit h e ((initialise_claimsFit 0 s).of_groups rfl)

/-- Settles O9: a step runs the command at the front of the queue, and every command keeps the claim law. -/
theorem claimLawIsKept : Obligations.ClaimLawIsKept := fun s t h e => by
  rw [State.claimLaw_iff] at h ⊢
  unfold step at e
  split at e
  · next rest _ =>
    have h' : State.ClaimsFit { s with pending := rest } := h.of_groups rfl
    exact exec_claimsFit _ h' e
  · cases e
    exact h

end Sys2Proof.Machine

namespace Sys2Proof.Machine

/-! ## What each event touches (R167, R168) -/

/-- The events in number order. -/
def Event.all : List Event :=
  [.configInvalid, .timeInvalid, .mainsLost, .mainsRestored, .inhibitStuck, .groupPassed, .groupFaulty, .testAborted,
    .luminaireAbsent, .luminaireReturned, .luminaireFault, .branchDown, .branchUp, .isolated, .standaloneEntered,
    .driverCut, .lineHeld, .peerViewFull, .loadOver, .conflictLate, .txDropped, .serviceRefused, .recordCrcError,
    .reportOverrun, .overdue, .routeFail]

theorem Event.all_number (e : Event) : Event.all[e.number]? = some e := by cases e <;> rfl

theorem Event.number_inj {e f : Event} : e.number = f.number ↔ e = f := by
  refine ⟨fun h => ?_, fun h => congrArg _ h⟩
  have he := e.all_number
  rw [h, f.all_number] at he
  exact (Option.some.inj he).symm

theorem Event.number_lt (e : Event) : e.number < 26 := by cases e <;> decide

theorem raise_destinations (e : Event) (d : Detail) (s : State) :
    (raise e d s).events.destinations = s.events.destinations := by
  have overrun : ∀ (u : EventUnit) (k m : Nat), (u.overrun k m).destinations = u.destinations := fun u k m => by
    unfold EventUnit.overrun
    simp only
    split
    · split <;> rfl
    · rfl
  show (s.events.occur e.number d s.calendar.minutes).destinations = _
  unfold EventUnit.occur
  split
  · unfold EventUnit.offer
    split
    · rfl
    · exact overrun _ _ _
  · rfl

/-- Raising an event touches no other. -/
theorem raise_cell_other (e : Event) (d : Detail) (s : State) {f : Event} (h : f ≠ e) (ho : f ≠ .reportOverrun) :
    (raise e d s).events.cell f.number = s.events.cell f.number :=
  raise_cell_ne e d s f.number (mt Event.number_inj.mp h) (mt Event.number_inj.mp ho)

theorem EventsKept.refl (a : List Event) (s : State) : EventsKept a s s := ⟨rfl, fun _ _ _ => rfl⟩

theorem EventsKept.trans {a : List Event} {s t u : State} (h : EventsKept a s t) (k : EventsKept a t u) : EventsKept a s u :=
  ⟨k.1.trans h.1, fun e he ho => (k.2 e he ho).trans (h.2 e he ho)⟩

theorem EventsKept.mono {a b : List Event} {s t : State} (h : EventsKept a s t) (sub : ∀ e ∈ a, e ∈ b) : EventsKept b s t :=
  ⟨h.1, fun e he ho => h.2 e (fun hm => he (sub e hm)) ho⟩

theorem EventsKept.of_events {a : List Event} {s t : State} (h : t.events = s.events) : EventsKept a s t :=
  ⟨congrArg EventUnit.destinations h, fun _ _ _ => congrArg (fun u => EventUnit.cell u _) h⟩

theorem EventsKept.foldl {α : Type} {a : List Event} {f : State → α → State} (h : ∀ s x, EventsKept a s (f s x)) (l : List α)
    (s : State) : EventsKept a s (l.foldl f s) := by
  induction l generalizing s with
  | nil => exact EventsKept.refl a s
  | cons x xs ih => exact (h s x).trans (ih (f s x))

theorem EventsKept.relight {a : List Event} {s t : State} (u : State) (h : EventsKept a s t) : EventsKept a s (relight u t) := h

theorem raise_eventsKept (e : Event) (d : Detail) (s : State) : EventsKept [e] s (raise e d s) :=
  ⟨raise_destinations e d s, fun _ hf ho => raise_cell_other e d s (fun h => hf (h ▸ List.mem_singleton_self _)) ho⟩

/-- R147: an offer to the queue touches no event but REPORT_OVERRUN. -/
theorem offer_eventsKept (f : TxFrame) (s : State) : EventsKept [] s (offer f s) := by
  have lost : ∀ (f : TxFrame) (s : State), EventsKept [] s (displaced f s) := fun f s => by
    unfold displaced
    split
    · exact ⟨raise_destinations _ _ s, fun e _ ho => raise_cell_other _ _ s ho ho⟩
    · exact .of_events (noteGone_keeps _ s .events (by decide))
  unfold offer
  split
  · exact .of_events rfl
  · split
    · exact .of_events rfl
    · split
      · unfold offerFull
        split
        · exact .of_events rfl
        · split
          · exact (EventsKept.of_events rfl).trans (lost _ _)
          · split
            · split <;> exact .of_events rfl
            · exact .of_events rfl
      · exact .of_events rfl

theorem queueClaim_eventsKept (g : Nat) (s : State) : EventsKept [] s (queueClaim g s) := by
  unfold queueClaim
  split
  · exact offer_eventsKept _ s
  · exact EventsKept.refl _ s

/-! ## The responder's mark (R178) -/

theorem RestartNoted.of_same {s t : State} (hs : t.service = s.service) (hl : t.line.restarts = s.line.restarts) :
    RestartNoted s t := by
  unfold RestartNoted State.restartGone
  rw [hs, hl]
  simp

theorem RestartNoted.refl (s : State) : RestartNoted s s := .of_same rfl rfl

/-- The mark depends on the line and the responder alone. -/
theorem RestartNoted.congr {s s' t t' : State} (h : RestartNoted s t) (hs : s'.service = s.service) (hl : s'.line = s.line)
    (ts : t'.service = t.service) (tl : t'.line = t.line) : RestartNoted s' t' := by
  unfold RestartNoted State.restartGone at h ⊢
  rw [ts, tl, hs, hl]
  exact h

theorem queueClaim_noted (g : Nat) (s : State) : RestartNoted s (queueClaim g s) := by
  unfold queueClaim
  split
  · exact offer_noted _ s rfl
  · exact RestartNoted.refl s

/-! ## The conflict relation and precedence (R24, R25) -/

theorem conflicts_iff (d : GroupDef) (home : Nat) (near : List Nat) :
    d.conflicts home near = true ↔
      (home ≠ 0 ∧ home = d.home) ∨ (home ≠ 0 ∧ home ∈ d.neighbours) ∨ (d.home ≠ 0 ∧ d.home ∈ near) := by
  unfold GroupDef.conflicts zonesConflict
  simp only [Bool.or_eq_true, Bool.and_eq_true, decide_eq_true_eq, List.contains_iff_mem]
  tauto

theorem conflicts_symm (d e : GroupDef) : d.conflicts e.home e.neighbours = e.conflicts d.home d.neighbours := by
  rw [Bool.eq_iff_iff, conflicts_iff, conflicts_iff]
  have hd : e.home ≠ 0 ∧ e.home = d.home ↔ d.home ≠ 0 ∧ d.home = e.home :=
    ⟨fun h => ⟨h.2 ▸ h.1, h.2.symm⟩, fun h => ⟨h.2 ▸ h.1, h.2.symm⟩⟩
  tauto

theorem State.mem_usedGroups (s : State) (g : Nat) : g ∈ s.usedGroups ↔ g < 24 ∧ (s.group g).state ≠ .unused := by
  simp [State.usedGroups, groupNumbers, Group.inUse]

theorem State.mem_conflictMask (s : State) (home : Nat) (near : List Nat) (g : Nat) :
    g ∈ s.conflictMask home near ↔
      g < 24 ∧ (s.group g).state ≠ .unused ∧ (s.group g).defn.conflicts home near = true := by
  unfold State.conflictMask
  rw [List.mem_filter, s.mem_usedGroups, and_assoc]

theorem precedes_iff (u a g v b h : Nat) :
    precedes u a g v b h = true ↔ v < u ∨ (u = v ∧ a < b) ∨ (u = v ∧ a = b ∧ g < h) := by
  unfold precedes
  simp only [Bool.or_eq_true, Bool.and_eq_true, decide_eq_true_eq]
  tauto

/-- Settles O20: R24's relation, and R25's precedence as a lexicographic order. -/
theorem conflictAndPrecedence : Obligations.ConflictAndPrecedence := by
  refine ⟨conflicts_iff, conflicts_symm, fun s x c g => s.mem_conflictMask _ _ g, fun s x p g => s.mem_usedGroups g,
    fun u a g v b h => ⟨precedes_iff u a g v b h, fun ne => ?_⟩, fun u a g v b h w c k => ?_, fun s j g u hu => ?_,
    fun s j g hu => ?_⟩
  · rw [precedes_iff, precedes_iff]
    rw [Ne, Prod.mk.injEq] at ne
    omega
  · simp only [precedes_iff]
    omega
  · unfold State.outranks
    rw [hu]
    rfl
  · unfold State.outranks
    rw [hu]

/-! ## The tick second and the minute tick (R111) -/

/-- A group's entry in a table that is changed entry by entry. -/
theorem State.group_map (s : State) (f : Group → Group) (hf : f Group.empty = Group.empty) (g : Nat) :
    State.group { s with groups := s.groups.map f } g = f (s.group g) := by
  unfold State.group
  simp only [List.getD_eq_getElem?_getD, List.getElem?_map]
  cases s.groups[g]? with
  | none => exact hf.symm
  | some gr => rfl

theorem checkLatchAtTick_keeps (s : State) : Keeps [.calendar, .events] s (checkLatchAtTick s) := by
  unfold checkLatchAtTick
  split
  · intro p h; cases p <;> first | rfl | simp at h
  · exact Keeps.refl _ s

theorem tickAll_group (s : State) (g : Nat) : (tickAll s).group g = (s.group g).tick :=
  State.group_map s Group.tick rfl g

/-- Settles O31: everything that runs on the tick second advances, and then the latch is looked at. -/
theorem tickSecondCounts : Obligations.TickSecondCounts := by
  intro s hp hc
  have hk := checkLatchAtTick_keeps (tickAll s)
  refine ⟨relight s (checkLatchAtTick (tickAll s)), live_powered (fun s => checkLatchAtTick (tickAll s)) hp, ?_, hk .clock (by decide), hk .sup (by decide), ?_, ?_,
    hk .view (by decide), hk .overflow (by decide), hk .line (by decide), hk .service (by decide), hk .inputs (by decide), ?_, ?_⟩
  · refine Keeps.relight (Keeps.trans (t := tickAll s) ?_ (hk.mono (by decide)))
    intro p h
    cases p <;> first | rfl | simp at h
  · intro g hg
    rw [relight_group, State.group_of_groups (hk .groups (by decide)), tickAll_group]
    unfold Group.tick
    rw [hg]
    exact congrArg (fun c => { s.group g with claim := c }) hg.symm
  · intro g c hg
    rw [relight_group, State.group_of_groups (hk .groups (by decide)), tickAll_group]
    unfold Group.tick
    rw [hg]
    rcases c with ⟨phase, _ | (_ | e), refresh⟩ <;> rfl
  · intro ho
    have same : checkLatchAtTick (tickAll s) = tickAll s := if_neg (Bool.eq_false_iff.mp ho)
    rw [same]
    exact ⟨rfl, rfl⟩
  · intro ho
    have same : checkLatchAtTick (tickAll s) =
        raise .timeInvalid noDetail { tickAll s with calendar := s.calendar.checkLatch } := if_pos ho
    rw [same]
    refine ⟨if_pos ho, raise_occurs .timeInvalid noDetail _ ?_ (by decide), raise_eventsKept .timeInvalid noDetail _⟩
    show 1 < s.events.cells.length
    omega

theorem minuteAll_keeps (s : State) : Keeps [.clock, .beacon, .loop, .groups, .inputs, .view] s (minuteAll s) := by
  intro p h
  cases p <;> first | rfl | simp at h

/-- R87: a group's entry after a minute tick that counts recharges. -/
theorem minuteAll_group (s : State) (h : s.inputs.mains = .on ∧ s.sup.mode ≠ .loading) (g : Nat) :
    (minuteAll s).group g = (s.group g).minute := by
  rw [← State.group_map s Group.minute rfl g]
  exact State.group_of_groups (if_pos h) g

theorem minuteAll_group_kept (s : State) (h : ¬ (s.inputs.mains = .on ∧ s.sup.mode ≠ .loading)) (g : Nat) :
    (minuteAll s).group g = s.group g := State.group_of_groups (if_neg h) g

theorem Group.minute_kept (gr : Group) (h : gr.state ≠ .recovering ∨ gr.recharge = none) : gr.minute = gr := by
  unfold Group.minute
  split
  · rename_i hs hr
    rcases h with h | h
    · exact absurd hs h
    · rw [hr] at h
      cases h
  · rfl

theorem Group.minute_recovering (gr : Group) (k : Nat) (hs : gr.state = .recovering) (hr : gr.recharge = some k) :
    gr.minute =
      { gr with
        recharge := some (k - 1)
        rechargeDue := gr.rechargeDue || decide (k ≤ 1)
        dirty := gr.dirty || (decide (1 < k) && decide ((k - 1) % 60 = 0)) } := by
  unfold Group.minute
  rw [hs, hr]

/-- Settles O32. -/
theorem minuteTickCounts : Obligations.MinuteTickCounts := by
  intro s hp hd
  have step : exec .minuteTick s = .next (relight s (minuteAll s)) := by
    rw [show exec .minuteTick s = live s (fun s => if s.clock.minuteDue then minuteAll s else s) from rfl, live_powered _ hp,
      if_pos hd]
  refine ⟨relight s (minuteAll s), step, (minuteAll_keeps s).relight, rfl, rfl, rfl, ?_, ?_, ?_, ?_⟩
  · intro g hg
    rw [relight_group]
    by_cases hr : s.inputs.mains = .on ∧ s.sup.mode ≠ .loading
    · rw [minuteAll_group s hr, Group.minute_kept _ (hg.resolve_left (not_not_intro hr))]
    · exact minuteAll_group_kept s hr g
  · intro g k hr hs hk
    have pos : 0 < k - 1 ↔ 1 < k := by omega
    rw [relight_group, minuteAll_group s hr, Group.minute_recovering _ k hs hk, Bool.decide_and, decide_eq_decide.mpr pos]
  · show s.inputs.minute = _
    unfold Inputs.minute
    rw [Bool.decide_and]
  · refine List.map_congr_left fun e _ => ?_
    unfold Entry.minute
    cases e.full with
    | none => rfl
    | some f => simp only [Nat.sub_eq_zero_iff_le]

/-! ## The refresh (R42) -/

/-- Settles O37: the CLAIM waits again and the refresh starts again, and nothing else happens. -/
theorem refreshRepeatsTheClaim : Obligations.RefreshRepeatsTheClaim := by
  intro s g ms c hp hc hst hr
  have past : (s.group g).state.past = true := by rcases hst with h | h <;> rw [h] <;> rfl
  have due : s.refreshExpired g = true := by
    unfold State.refreshExpired
    rw [hc]
    simp [past, expired, hr]
  have hg : g < s.groups.length := Nat.lt_of_not_le fun hl => by
    rw [State.group_outside s g hl] at hc
    cases hc
  let q := queueClaim g (s.atMs ms)
  have hq : q.group g = s.group g := queueClaim_group g g (s.atMs ms)
  have hl : g < q.groups.length := by
    rw [show q.groups = s.groups from queueClaim_keeps g (s.atMs ms) .groups (by decide)]
    exact hg
  have step : exec (.refreshExpiry g ms) s = .next (relight s (startRefresh g q)) := by
    rw [show exec (.refreshExpiry g ms) s = live s (fun s => if s.refreshExpired g then
      startRefresh g (queueClaim g (s.atMs ms)) else s) from rfl, live_powered _ hp, if_pos due]
  have offered : Offered (.claim g ((s.atMs ms).claimBody g c.phase)) s.line q := by
    unfold q queueClaim
    rw [State.group_atMs, hc]
    exact offer_offered _ (s.atMs ms) rfl
  have clock : (relight s (startRefresh g q)).now = (s.atMs ms).now := by
    unfold State.now
    rw [relight_clock, show (startRefresh g q).clock = q.clock from rfl,
      show q.clock = (s.atMs ms).clock from queueClaim_keeps g (s.atMs ms) .clock (by decide)]
  refine ⟨relight s (startRefresh g q), step, Keeps.relight ?_, fun k hk => ?_, queueClaim_noted g (s.atMs ms),
    queueClaim_eventsKept g (s.atMs ms), ?_, fun ph start hs => ?_, fun ph k hk => ?_⟩
  · exact ((queueClaim_keeps g _).mono (by decide)).trans ((startRefresh_keeps g q).mono (by decide))
  · rw [relight_group, startRefresh_group_ne g k q hk]
    exact queueClaim_group g k (s.atMs ms)
  · rw [relight_group, startRefresh_group g q hl, hq, hc]
    rfl
  · rw [clock]
    unfold State.claimBody State.remainingMinutes at offered
    simp only [State.group_atMs, ph, hs] at offered
    exact offered
  · unfold State.claimBody State.remainingMinutes at offered
    simp only [State.group_atMs, ph, hk] at offered
    exact offered

end Sys2Proof.Machine

namespace Sys2Proof.Machine

/-! ## Accesses to the line (R140, R146, R148) -/

/-! ### Codes and levels -/

theorem frameCodes : FrameCodes := ⟨rfl, rfl, rfl, rfl⟩

theorem crc16Shift_eq : crc16Shift = fun r : BitVec 16 => if r.getLsbD 15 = true then (r <<< 1) ^^^ 0x1021#16 else r <<< 1 := by
  funext r
  unfold crc16Shift
  rw [BitVec.msb_eq_getLsbD_last]

theorem crc16Code : Crc16Code := by
  refine ⟨rfl, fun bytes b => ?_⟩
  rw [← crc16Shift_eq]
  unfold crc16
  rw [List.foldl_append]
  rfl

theorem lineCharacters : LineCharacters := by
  refine ⟨fun _ => rfl, fun _ => rfl, fun c i hi => ?_, fun _ => rfl, rfl⟩
  interval_cases i <;> rfl

/-- R140: each character takes its ten levels, one character after another. -/
theorem flatMap_charLevels_getElem? (chars : List Byte) (k : Nat) (c : Byte) (h : chars[k]? = some c) (i : Nat) (hi : i < 10) :
    (chars.flatMap charLevels)[10 * k + i]? = (charLevels c)[i]? := by
  induction chars generalizing k with
  | nil => cases h
  | cons x xs ih =>
    rw [List.flatMap_cons]
    cases k with
    | zero =>
      cases h
      rw [Nat.mul_zero, Nat.zero_add, List.getElem?_append_left (by rw [length_charLevels]; exact hi)]
    | succ k =>
      rw [List.getElem?_append_right (by rw [length_charLevels]; omega), length_charLevels,
        show 10 * (k + 1) + i - 10 = 10 * k + i by omega]
      exact ih k h

theorem flatMap_charLevels_length (chars : List Byte) : (chars.flatMap charLevels).length = 10 * chars.length := by
  induction chars with
  | nil => rfl
  | cons x xs ih => rw [List.flatMap_cons, List.length_append, ih, length_charLevels, List.length_cons]; omega

/-- R140: any ten bit times in a row hold the stop bit of a character, which is recessive. -/
theorem flatMap_charLevels_sentAs (chars : List Byte) : SentAs chars (chars.flatMap charLevels) := by
  refine ⟨flatMap_charLevels_length chars, flatMap_charLevels_getElem? chars, fun ⟨before, after, e⟩ => ?_⟩
  have len := congrArg List.length e
  rw [flatMap_charLevels_length, List.length_append, List.length_append, List.length_replicate] at len
  have hk : before.length / 10 < chars.length := by omega
  have stop := flatMap_charLevels_getElem? chars _ _ (List.getElem?_eq_getElem hk) 9 (by decide)
  rw [lineCharacters.stop, ← e, List.append_assoc, List.getElem?_append_right (by omega),
    List.getElem?_append_left (by rw [List.length_replicate]; omega), List.getElem?_replicate] at stop
  split at stop <;> cases stop

theorem bytesBE_length (k n : Nat) : (bytesBE k n).length = k := by
  induction k generalizing n with
  | zero => rfl
  | succ k ih => rw [bytesBE, List.length_append, ih]; rfl

/-- Byte order: the most significant byte of a field comes first. -/
theorem bytesBE_getElem? (k n i : Nat) (h : i < k) : (bytesBE k n)[i]? = some (byte (n / 256 ^ (k - 1 - i))) := by
  induction k generalizing n with
  | zero => omega
  | succ k ih =>
    rw [bytesBE]
    by_cases hi : i < k
    · rw [List.getElem?_append_left (by rw [bytesBE_length]; exact hi), ih _ hi, Nat.div_div_eq_div_mul, ← Nat.pow_succ',
        show (k - 1 - i).succ = k + 1 - 1 - i by omega]
    · obtain rfl : i = k := by omega
      rw [List.getElem?_append_right (by rw [bytesBE_length]), bytesBE_length]
      simp

/-! ### The characters of a frame (section 8.2) -/

theorem laidOut_zones (zones : List Nat) : laidOut (zones.map (fun z => (2, z))) = zones.flatMap (bytesBE 2) := by
  simp [laidOut, List.flatMap_map]

theorem laidOut_claims (claims : List (Nat × Phase)) :
    laidOut (claims.flatMap (fun c => [(1, c.1), (1, c.2.code.toNat)])) = claims.flatMap (fun c => [byte c.1, c.2.code]) := by
  simp [laidOut, List.flatMap_assoc, bytesBE_one, byte_toNat]

/-- Sections 2.3, 10.1 and 11.1: a frame's payload is laid out as its section says. -/
theorem TxFrame.payload_shown (b : BeaconBody) (f : TxFrame) : f.payload b = f.shownPayload b := by
  cases f with
  | claim g c =>
    simp [TxFrame.payload, TxFrame.shownPayload, ClaimBody.bytes, laidOut_cons, laidOut_zones,
      bytesBE_one, byte_toNat]
  | release g r => simp [TxFrame.payload, TxFrame.shownPayload, laidOut_cons, laidOut_nil, bytesBE_one, byte_toNat]
  | beacon =>
    simp [TxFrame.payload, TxFrame.shownPayload, BeaconBody.bytes, laidOut_cons, laidOut_claims,
      bytesBE_one, byte_toNat, bytesBE_shownFlag]
  | reply r => simp [TxFrame.payload, TxFrame.shownPayload, Reply.bytes]
  | event r =>
    simp [TxFrame.payload, TxFrame.shownPayload, Report.bytes, Detail.bytes, Detail.shownFields, laidOut_cons, laidOut_nil,
      bytesBE_one, byte_toNat]

theorem TxFrame.chars_shown (source : Nat) (b : BeaconBody) (f : TxFrame) :
    f.chars source b = f.shownBody source b ++ bytesBE 2 (crc16 (f.shownBody source b)).toNat := by
  have header : [byte source, f.destination, f.kind, byte (f.payload b).length] ++ f.payload b = f.shownBody source b := by
    rw [TxFrame.payload_shown]
    cases f <;> simp [TxFrame.shownBody, TxFrame.shownKind, TxFrame.destination, TxFrame.kind, laidOut_cons, laidOut_nil,
      bytesBE_one, byte]
  rw [← header]
  rfl

/-! ### The choice of a frame (R146) -/

theorem TxFrame.order_protocol {f : TxFrame} (h : f.isProtocol = true) : f.order = 1 := by
  cases f <;> first | rfl | cases h

theorem TxFrame.order_beacon {f : TxFrame} (h : f.isBeacon = true) : f.order = 2 := by cases f <;> first | rfl | cases h

theorem TxFrame.one_le_order (f : TxFrame) : 1 ≤ f.order := by cases f <;> simp [TxFrame.order]

theorem TxFrame.two_le_order {f : TxFrame} (h : f.isProtocol = false) : 2 ≤ f.order := by
  cases f <;> simp [TxFrame.order, TxFrame.isProtocol] at h ⊢

theorem TxFrame.order_service {f : TxFrame} (hp : f.isProtocol = false) (hb : f.isBeacon = false) : f.order = 3 := by
  cases f <;> simp [TxFrame.order, TxFrame.isProtocol, TxFrame.isBeacon] at hp hb ⊢

/-- R146: the frame chosen is the oldest of the first class that holds one. -/
theorem firstFrame_spec (waiting : List TxFrame) (h : waiting ≠ []) :
    ∃ f before after, firstFrame waiting = some f ∧ waiting = before ++ f :: after ∧ (∀ w ∈ before, f.order < w.order) ∧
      ∀ w ∈ after, f.order ≤ w.order := by
  unfold firstFrame
  cases hp : waiting.find? TxFrame.isProtocol with
  | some f =>
    obtain ⟨hf, before, after, e, hb⟩ := List.find?_eq_some_iff_append.mp hp
    refine ⟨f, before, after, rfl, e, fun w hw => ?_, fun w _ => ?_⟩
    · have := TxFrame.two_le_order (by simpa using hb w hw)
      rw [TxFrame.order_protocol hf]
      omega
    · rw [TxFrame.order_protocol hf]
      exact w.one_le_order
  | none =>
    have noProtocol : ∀ w ∈ waiting, w.isProtocol = false := fun w hw => by simpa using List.find?_eq_none.mp hp w hw
    cases hq : waiting.find? TxFrame.isBeacon with
    | some f =>
      obtain ⟨hf, before, after, rfl, hb⟩ := List.find?_eq_some_iff_append.mp hq
      refine ⟨f, before, after, rfl, rfl, fun w hw => ?_, fun w hw => ?_⟩
      · rw [TxFrame.order_beacon hf, TxFrame.order_service (noProtocol w (by simp [hw])) (by simpa using hb w hw)]
        decide
      · rw [TxFrame.order_beacon hf]
        exact TxFrame.two_le_order (noProtocol w (by simp [hw]))
    | none =>
      have service : ∀ w ∈ waiting, w.order = 3 := fun w hw =>
        TxFrame.order_service (noProtocol w hw) (by simpa using List.find?_eq_none.mp hq w hw)
      obtain ⟨f, after, rfl⟩ := List.exists_cons_of_ne_nil h
      refine ⟨f, [], after, rfl, rfl, fun w hw => absurd hw List.not_mem_nil, fun w hw => ?_⟩
      rw [service f (by simp), service w (by simp [hw])]

/-- The chosen frame leaves the waiting frames, which keep their order. -/
theorem erase_first {before after : List TxFrame} {f : TxFrame} (h : ∀ w ∈ before, f.order < w.order) :
    (before ++ f :: after).erase f = before ++ after := by
  rw [List.erase_append_right _ (fun hm => Nat.lt_irrefl _ (h f hm)), List.erase_cons_head]

/-! ### The draw (R141, R148) -/

/-- R148: an access has drawn its slot, here or before; the register has moved where this step made the draw. -/
theorem drawIfNone_line (s : State) :
    { (drawIfNone s).line with slot := none } =
      { s.line with draw := if s.line.slot = none then s.line.draw.map drawNext else s.line.draw, slot := none } := by
  unfold drawIfNone
  cases hs : s.line.slot with
  | some k => simp
  | none =>
    obtain ⟨hd, e⟩ | ⟨r, hd, e⟩ := drawSlot_spec s
    · simp only [e, hd, if_true, Option.map_none]
    · simp only [e, hd, if_true, Option.map_some, State.setLine_line]

theorem drawIfNone_same (s : State) :
    (drawIfNone s).line.current = s.line.current ∧ (drawIfNone s).line.waiting = s.line.waiting := by
  have e := drawIfNone_line s
  rw [Line.mk.injEq] at e
  obtain ⟨waiting, -, current, -⟩ := e
  exact ⟨current, waiting⟩

/-- R30: a BEACON's contents do not depend on the line. -/
theorem beaconBody_of_keeps {s t : State} (h : Keeps [.line] s t) : t.beaconBody = s.beaconBody := by
  have hg := State.group_of_groups (h .groups (by decide))
  unfold State.beaconBody State.ownWeight State.ownSet State.groupsIn
  simp only [hg, show t.sup = s.sup from h .sup (by decide), show t.calendar = s.calendar from h .calendar (by decide)]

theorem beaconBody_claims (s : State) : s.beaconBody.claims.map Prod.fst = s.ownSet.take 4 :=
  List.map_map.trans (List.map_id _)

theorem beaconBody_phase (s : State) : ∀ p ∈ s.beaconBody.claims, (s.group p.1).state = p.2.state := by
  intro p hp
  obtain ⟨g, hg, rfl⟩ := List.mem_map.mp hp
  obtain ⟨-, hr⟩ := (s.mem_groupsIn _ g).mp (List.mem_of_mem_take hg)
  revert hr
  simp only
  cases (s.group g).state <;> first | (intro _; rfl) | (intro h; cases h)

theorem drawShift_getLsbD (r : BitVec 16) (i : Nat) (hi : i < 16) :
    (drawShift r).getLsbD i =
      if i = 0 then (((r.getLsbD 15).xor (r.getLsbD 13)).xor (r.getLsbD 12)).xor (r.getLsbD 10)
      else r.getLsbD (i - 1) := by
  unfold drawShift
  rw [BitVec.getLsbD_or, BitVec.getLsbD_shiftLeft, BitVec.getLsbD_setWidth]
  cases i with
  | zero => simp
  | succ i => simp [hi]

/-! ### The steps of an access -/

theorem accesses_of {s : State} (hm : s.sup.mode ≠ .loading) (hc : s.line.cut = none) (hh : s.line.held = false)
    (hz : s.line.size ≠ 0) (hs : ∀ c, s.line.current = some c → c.sending = false) : s.accesses = true := by
  unfold State.accesses
  rw [decide_eq_true hm, decide_eq_true hc, hh, decide_eq_true hz]
  cases e : s.line.current with
  | none => rfl
  | some c => simp [hs c e]

theorem size_of_current {l : Line} {c : Current} (h : l.current = some c) : l.size ≠ 0 := by
  unfold Line.size
  rw [h]
  simp

theorem size_of_waiting {l : Line} (h : l.waiting ≠ []) : l.size ≠ 0 := by
  unfold Line.size
  have := List.length_pos_iff.mpr h
  omega

theorem exec_txAttemptStart {s : State} (hp : s.powered = true) (ha : s.accesses = true) :
    exec .txAttemptStart s = .next (relight s (startAttempt (drawIfNone s))) := by
  rw [show exec .txAttemptStart s = live s (fun s => if s.accesses then startAttempt (drawIfNone s) else s) from rfl,
    live_powered _ hp, if_pos ha]

theorem exec_txDefer {s : State} (hp : s.powered = true) (ha : s.accesses = true) :
    exec .txDefer s = .next (relight s (endSlotWait (drawIfNone s))) := by
  rw [show exec .txDefer s = live s (fun s => if s.accesses then endSlotWait (drawIfNone s) else s) from rfl,
    live_powered _ hp, if_pos ha]

theorem startAttempt_keeps (s : State) : Keeps [.line] s (startAttempt s) := by
  unfold startAttempt
  split
  · exact setLine_keeps _ s
  · split
    · exact setLine_keeps _ s
    · exact Keeps.refl _ s

theorem startAttempt_again {s : State} {c : Current} (h : s.line.current = some c) :
    (startAttempt s).line = { s.line with current := some { c with sending := true }, slot := none } := by
  unfold startAttempt
  rw [h]
  rfl

theorem startAttempt_choose {s : State} {f : TxFrame} (h : s.line.current = none) (hf : firstFrame s.line.waiting = some f) :
    startAttempt s = choose f s := by
  unfold startAttempt
  rw [h, hf]

/-- Settles O45. -/
theorem transmissionAttemptsBegin : Obligations.TransmissionAttemptsBegin := by
  refine ⟨frameCodes, crc16Code, lineCharacters, fun s => ?_, bytesBE_getElem?, bytesBE_length,
    fun s hp hm hc hh => ⟨fun c hcur hsend => ?_, fun hcur hw => ?_, fun hz hs => ⟨?_, rfl, fun hslot => ?_, fun r hr hslot => ?_⟩,
      fun _ => rfl, drawShift_getLsbD⟩⟩
  · obtain ⟨d, hd, hds, e⟩ | ⟨hn, e⟩ := sentLevels_spec s
    · refine ⟨fun c hcur _ => ?_, fun hn => absurd (hn d hd) (by rw [hds]; decide)⟩
      rw [hd] at hcur
      cases hcur
      rw [e]
      exact flatMap_charLevels_sentAs _
    · exact ⟨fun c hcur hsend => absurd (hn c hcur) (by rw [hsend]; decide), fun _ => e⟩
  · have ha := accesses_of hm hc hh (size_of_current hcur) fun d hd => by rw [hcur] at hd; cases hd; exact hsend
    refine ⟨_, exec_txAttemptStart hp ha, ((drawIfNone_keeps s).trans (startAttempt_keeps _)).relight, ?_⟩
    rw [relight_line, startAttempt_again ((drawIfNone_same s).1.trans hcur)]
    exact congrArg (fun l : Line => { l with current := some { c with sending := true } }) (drawIfNone_line s)
  · have ha := accesses_of hm hc hh (size_of_waiting hw) fun c hd => by rw [hcur] at hd; cases hd
    obtain ⟨f, before, after, hf, hl, hb, hafter⟩ := firstFrame_spec _ hw
    have body := beaconBody_of_keeps (drawIfNone_keeps s)
    have chosen := startAttempt_choose ((drawIfNone_same s).1.trans hcur) (by rw [(drawIfNone_same s).2]; exact hf)
    refine ⟨_, f, before, after, s.beaconBody, exec_txAttemptStart hp ha,
      ((drawIfNone_keeps s).trans (startAttempt_keeps _)).relight, hl, hb, hafter, rfl, rfl, rfl, rfl, beaconBody_claims s,
      beaconBody_phase s, ?_⟩
    rw [relight_line, chosen, ← TxFrame.chars_shown, ← erase_first hb, ← hl, ← body, ← (drawIfNone_same s).2,
      show s.sup = (drawIfNone s).sup from (drawIfNone_keeps s .sup (by decide)).symm]
    exact congrArg (fun l : Line =>
      { l with
        waiting := (drawIfNone s).line.waiting.erase f
        current := some
          { frame := f, attempt := 1, window := 16, sending := true,
            chars := f.chars ((drawIfNone s).sup.address.getD 0) (drawIfNone s).beaconBody } }) (drawIfNone_line s)
  · have ha := accesses_of hm hc hh hz hs
    exact ⟨_, exec_txDefer hp ha, ((drawIfNone_keeps s).trans (endSlotWait_keeps _)).relight, drawIfNone_line s⟩
  · rw [drawnWhileIdle_spec, if_neg fun h => hslot h.2.2]
  · have ha := accesses_of hm hc hh hz hs
    rw [drawnWhileIdle_spec, if_pos ⟨rfl, ha, hslot⟩]
    unfold drawSlot Line.window
    rw [hr]
    cases s.line.current <;> rfl

end Sys2Proof.Machine

namespace Sys2Proof.Machine

/-! ## The restore of a group (R156) -/

theorem storedCodes : StoredCodes := by
  refine ⟨rfl, fun k hk => ?_, rfl, fun k hk => ?_, rfl, fun n hn => if_neg hn⟩
  · unfold GResult.ofCode
    split <;> first | omega | rfl
  · unfold LResult.ofCode
    split <;> first | omega | rfl

theorem StoredPhase.ofCode_none {k : Nat} (h : ¬ (1 ≤ k ∧ k ≤ 3)) : StoredPhase.ofCode k = none := by
  unfold StoredPhase.ofCode
  split <;> first | omega | rfl

/-- R156: a record with a bad CRC, or whose phase byte names no phase, is damaged. -/
theorem GroupRecord.read_damaged {bytes : List Byte} (h : ¬ (crc16Good bytes = true ∧ 1 ≤ byteAt bytes 0 ∧ byteAt bytes 0 ≤ 3)) :
    GroupRecord.read bytes = none := by
  unfold GroupRecord.read
  split
  · rename_i hc hp
    rw [StoredPhase.ofCode_none fun hk => h ⟨hc, hk⟩] at hp
    cases hp
  · rfl

theorem GroupRecord.read_good {bytes : List Byte} {p : StoredPhase} (hc : crc16Good bytes = true)
    (hp : StoredPhase.ofCode (byteAt bytes 0) = some p) :
    GroupRecord.read bytes =
      some
        { phase := p
          lastTested := timeOf (fieldAt bytes 1 4)
          lastResult := GResult.ofCode (byteAt bytes 5)
          fails := min 7 (byteAt bytes 6)
          held := decide (byteAt bytes 7 ≠ 0)
          recharge := min 2880 (fieldAt bytes 8 2)
          testStart := timeOf (fieldAt bytes 10 4)
          firstFailing := if byteAt bytes 14 ≤ 0x7F then some (byteAt bytes 14) else none } := by
  unfold GroupRecord.read
  rw [hc, hp]

/-- What the restore of group `g` leaves alone, whatever the record. -/
structure RestoreFrame (g : Nat) (s t : State) : Prop where
  keeps : Keeps [.loader, .groups, .events] s t
  next : t.loader.next = s.loader.next
  figures : t.loader.figures = s.loader.figures
  others : OtherGroups g s t
  events : EventsKept [.recordCrcError] s t

theorem RestoreFrame.refl (g : Nat) (s : State) : RestoreFrame g s s :=
  ⟨Keeps.refl _ s, rfl, rfl, fun _ _ => rfl, EventsKept.refl _ s⟩

theorem restoreGroup_frame (g : Nat) (r : Option GroupRecord) (s : State) : RestoreFrame g s (restoreGroup g r s) := by
  have changed : ∀ (f : Group → Group), RestoreFrame g s (s.modGroup g f) := fun f =>
    ⟨(modGroup_keeps g f s).mono (by decide), rfl, rfl, fun h hne => State.group_modGroup_ne s g h f hne, .of_events rfl⟩
  have noted : ∀ (x : Restored) (t : State), RestoreFrame g s t → RestoreFrame g s (noteRestored g x t) := fun x t h =>
    ⟨h.keeps.trans fun p hp => by cases p <;> first | rfl | simp at hp, h.next, h.figures, h.others, h.events⟩
  unfold restoreGroup
  split
  · split
    · exact changed _
    · exact noted _ _ (changed _)
    · exact noted _ _ (changed _)
  · have h := noted .damaged _ (changed (fun gr =>
      { gr with
        state := .recovering, lastTested := none, fails := 0, lastResult := none, held := false, recTestStart := none,
        recFirstFailing := none, firstFailing := none, recharge := some (60 * gr.defn.rechargeHours),
        claim := some restoredClaim, dirty := true }))
    exact ⟨h.keeps.trans ((raise_keeps _ _ _).mono (by decide)), h.next, h.figures, h.others,
      h.events.trans (raise_eventsKept _ _ _)⟩

theorem exec_groupRecordRead {s : State} {g : Nat} (hp : s.powered = true) (hm : s.sup.mode = .loading)
    (hl : s.loader.next = .groupRecord g) (answer : MemAnswer) (ms : Nat) :
    exec (.groupRecordRead answer ms) s =
      .next (relight s (groupRead g (s.mem.nvm.answer (groupOffset g) 32 answer).2
        ((s.atMs ms).setNvm (s.mem.nvm.answer (groupOffset g) 32 answer).1))) := by
  show execGroupRecordRead answer s ms = _
  unfold execGroupRecordRead
  rw [live_powered _ hp]
  simp only [hl, hm, if_true]
  rfl

theorem groupRead_skipped {g : Nat} {bytes : List Byte} {s : State}
    (h : s.loader.figures = none ∨ (s.group g).defn.members = []) : groupRead g bytes s = advanceLoader s := by
  unfold groupRead
  rw [if_neg]
  rintro ⟨hf, hw⟩
  rcases h with h | h
  · rw [h] at hf
    cases hf
  · exact hw (by unfold Group.weight; rw [h]; rfl)

theorem groupRead_applied {g : Nat} {bytes : List Byte} {s : State} (hf : s.loader.figures ≠ none)
    (hm : (s.group g).defn.members ≠ []) :
    groupRead g bytes s = advanceLoader (restoreGroup g (GroupRecord.read bytes) s) := by
  unfold groupRead
  rw [if_pos]
  exact ⟨Option.isSome_iff_ne_none.mpr hf, fun hw => hm (List.eq_nil_of_length_eq_zero hw)⟩

/-- Settles O28. -/
theorem groupRecordRestoresItsGroup : Obligations.GroupRecordRestoresItsGroup := by
  refine ⟨storedCodes, ?_⟩
  intro s g ms answer hp hm hg hl hw read bytes gr phase good last fails held start failing recovering noted
  let u := (s.atMs ms).setNvm read.1
  have hu : g < u.groups.length := by
    show g < s.groups.length
    rw [hw.groups]
    exact hg
  have cells : Event.recordCrcError.number < u.events.cells.length := by
    show 22 < s.events.cells.length
    rw [hw.cells]
    decide
  have frame : ∃ v, groupRead g bytes u = advanceLoader v ∧ RestoreFrame g u v := by
    by_cases h : s.loader.figures = none ∨ gr.defn.members = []
    · exact ⟨u, groupRead_skipped h, RestoreFrame.refl g u⟩
    · obtain ⟨hf, hne⟩ := not_or.mp h
      exact ⟨_, groupRead_applied (s := u) hf hne, restoreGroup_frame g _ u⟩
  obtain ⟨v, e, frame⟩ := frame
  have mem : v.mem = u.mem := frame.keeps .mem (by decide)
  refine ⟨relight s (groupRead g bytes u), exec_groupRecordRead hp hm hl answer ms, ?_, ?_, ?_, ?_, ?_, ?_, fun hskip => ?_,
    fun hf hne => ?_⟩
  · rw [relight_loader, e]
    show v.loader.next.after = _
    rw [frame.next]
    show s.loader.next.after = _
    rw [hl]
    rfl
  · rw [relight_loader, e]
    exact frame.figures
  · rw [relight_mem, e]
    exact mem
  · intro h hne
    rw [relight_group, e]
    exact frame.others h hne
  · rw [e]
    refine Keeps.relight (Keeps.trans (t := u) ((setNvm_keeps _ _).mono (by decide))
      (Keeps.trans (frame.keeps.mono (by decide)) ?_))
    intro p h
    cases p <;> first | rfl | simp at h
  · rw [e]
    exact frame.events
  · rw [groupRead_skipped (s := u) hskip]
    exact ⟨rfl, rfl, (List.append_nil _).symm⟩
  · rw [groupRead_applied (s := u) hf hne]
    refine ⟨fun hbad => ?_, fun hgood h1 => ?_, fun hgood h2 => ?_, fun hgood h3 => ?_⟩
    · rw [GroupRecord.read_damaged hbad]
      exact ⟨State.group_modGroup u g _ hu, raise_occurs .recordCrcError (groupDetail g) _ cells (by decide), rfl⟩
    · rw [GroupRecord.read_good (p := .idle) hgood.1 (by rw [show byteAt bytes 0 = 1 from h1]; rfl)]
      exact ⟨State.group_modGroup u g _ hu, rfl, (List.append_nil _).symm⟩
    · rw [GroupRecord.read_good (p := .testing) hgood.1 (by rw [show byteAt bytes 0 = 2 from h2]; rfl)]
      exact ⟨State.group_modGroup u g _ hu, rfl, rfl⟩
    · rw [GroupRecord.read_good (p := .recovering) hgood.1 (by rw [show byteAt bytes 0 = 3 from h3]; rfl)]
      exact ⟨State.group_modGroup u g _ hu, rfl, rfl⟩

end Sys2Proof.Machine

namespace Sys2Proof.Machine

/-! ## What an offer and a withdrawal leave of the queue (R146, R147) -/

/-- The frames of a list after an offer that merges with one of them (R146). -/
def mergedWith (f : TxFrame) (l : List TxFrame) : List TxFrame := l.map (fun w => if f.mergesWith w then f else w)

/-- R146, R147: what the offer of a CLAIM, RELEASE or BEACON can make of line `l`. -/
inductive OfferedTo (f : TxFrame) (l : Line) : Line → Prop
  | merged : l.waiting.any f.mergesWith = true → OfferedTo f l { l with waiting := mergedWith f l.waiting }
  | mergedBehind : l.backlog.any f.mergesWith = true → OfferedTo f l { l with backlog := mergedWith f l.backlog }
  | joined : OfferedTo f l { l with waiting := l.waiting ++ [f] }
  | displacing (before : List TxFrame) (lost : TxFrame) (after : List TxFrame) :
      l.waiting = before ++ lost :: after → lost.isProtocol = false →
      OfferedTo f l { l with waiting := before ++ after ++ [f] }
  | behind : OfferedTo f l { l with backlog := l.backlog ++ [f] }
  | refused : f.isProtocol = false → OfferedTo f l l

theorem TxFrame.not_protocol_of_service {f : TxFrame} (h : f.isService = true) : f.isProtocol = false := by
  cases f <;> first | rfl | cases h

theorem TxFrame.not_protocol_of_beacon {f : TxFrame} (h : f.isBeacon = true) : f.isProtocol = false := by
  cases f <;> first | rfl | cases h

theorem offer_offeredTo (f : TxFrame) (s : State) (h : f.isService = false) : OfferedTo f s.line (offer f s).line := by
  unfold offer
  split
  · exact .merged ‹_›
  · split
    · exact .mergedBehind ‹_›
    · split
      · unfold offerFull
        rw [h]
        simp only [Bool.false_eq_true, if_false]
        split
        · rename_i rest lost e
          obtain ⟨hp, before, after, hl, rfl, -⟩ := dropLast?_spec _ e
          rw [displaced_line]
          exact .displacing before lost after hl (TxFrame.not_protocol_of_service hp)
        · split
          · split
            · rename_i rest lost e
              obtain ⟨hp, before, after, hl, rfl, -⟩ := dropLast?_spec _ e
              exact .displacing before lost after hl (TxFrame.not_protocol_of_beacon hp)
            · exact .behind
          · exact .refused (Bool.eq_false_of_not_eq_true ‹_›)
      · exact .joined

theorem mem_mergedWith {f w : TxFrame} {l : List TxFrame} (hm : f.mergesWith w = false) (h : w ∈ l) : w ∈ mergedWith f l :=
  List.mem_map.mpr ⟨w, h, by rw [hm]; rfl⟩

/-- R146, R147: a CLAIM or RELEASE that waits goes on waiting, where the offered frame does not take its place. -/
theorem OfferedTo.waits {f w : TxFrame} {s t : State} (h : OfferedTo f s.line t.line) (hp : w.isProtocol = true)
    (hm : f.mergesWith w = false) (hw : Waits w s) : Waits w t := by
  unfold Waits at hw ⊢
  generalize t.line = l at h ⊢
  cases h with
  | merged => exact hw.imp (mem_mergedWith hm) id
  | mergedBehind => exact hw.imp id (mem_mergedWith hm)
  | joined => exact hw.imp (List.mem_append_left _) id
  | displacing before lost after e hl =>
    refine hw.imp (fun h => ?_) id
    rw [e] at h
    have hne : w ≠ lost := fun e => by rw [e, hl] at hp; cases hp
    simp only [List.mem_append, List.mem_cons] at h ⊢
    tauto
  | behind => exact hw.imp id (List.mem_append_left _)
  | refused => exact hw

theorem offer_waits_other {f w : TxFrame} {s : State} (hf : f.isService = false) (hp : w.isProtocol = true)
    (hm : f.mergesWith w = false) (hw : Waits w s) : Waits w (offer f s) := (offer_offeredTo f s hf).waits hp hm hw

theorem TxFrame.not_restart_of_not_service {f : TxFrame} (h : f.isService = false) : f.ofRestart = false := by
  cases f <;> first | rfl | cases h

theorem countP_mergedWith {f : TxFrame} (hf : f.ofRestart = false) (l : List TxFrame) :
    (mergedWith f l).countP TxFrame.ofRestart ≤ l.countP TxFrame.ofRestart := by
  unfold mergedWith
  rw [List.countP_map]
  refine List.countP_mono_left fun w _ h => ?_
  simp only [Function.comp] at h
  split at h
  · rw [hf] at h
    cases h
  · exact h

/-- R178: an offer of a CLAIM, RELEASE or BEACON adds no REPLY to the line. -/
theorem offer_restarts {f : TxFrame} {s : State} (hf : f.isService = false) :
    (offer f s).line.restarts ≤ s.line.restarts := by
  have hr := TxFrame.not_restart_of_not_service hf
  have sole : [f].countP TxFrame.ofRestart = 0 := by simp [hr]
  have h := offer_offeredTo f s hf
  generalize (offer f s).line = l at h ⊢
  cases h with
  | merged =>
    have := countP_mergedWith hr s.line.waiting
    simp only [Line.restarts, List.countP_append]
    omega
  | mergedBehind =>
    have := countP_mergedWith hr s.line.backlog
    simp only [Line.restarts, List.countP_append]
    omega
  | joined => simp only [Line.restarts, List.countP_append, sole, Nat.add_zero]; omega
  | displacing before lost after e =>
    simp only [Line.restarts, e, List.countP_append, List.countP_cons, sole]
    omega
  | behind => simp only [Line.restarts, List.countP_append, sole, Nat.add_zero]; omega
  | refused => exact Nat.le_refl _

theorem offer_cells_length (f : TxFrame) (s : State) : (offer f s).events.cells.length = s.events.cells.length := by
  have lost : ∀ (f : TxFrame) (s : State), (displaced f s).events.cells.length = s.events.cells.length := fun f s => by
    unfold displaced
    split
    · exact raise_cells_length _ _ s
    · rw [show (noteGone f s).events = s.events from noteGone_keeps f s .events (by decide)]
  unfold offer
  split
  · rfl
  · split
    · rfl
    · split
      · unfold offerFull
        split
        · rfl
        · split
          · exact lost _ _
          · split
            · split <;> rfl
            · rfl
      · rfl

/-! ### Frames leaving the queue -/

theorem Line.restarts_refill (l : Line) : l.refill.restarts = l.restarts := by
  simp only [Line.restarts, Line.refill, List.append_assoc, List.countP_append]
  have := congrArg (List.countP TxFrame.ofRestart) (List.take_append_drop (queueLimit - l.size) l.backlog)
  rw [List.countP_append] at this
  omega

theorem TxFrame.not_restart_of_proposal {g : Nat} {f : TxFrame} (h : f.proposalOf g = true) : f.ofRestart = false := by
  cases f <;> first | rfl | cases h

theorem countP_filter_not {p : TxFrame → Bool} (hp : ∀ f, p f = true → f.ofRestart = false) (l : List TxFrame) :
    (l.filter (fun f => !p f)).countP TxFrame.ofRestart = l.countP TxFrame.ofRestart := by
  rw [List.countP_filter]
  refine List.countP_congr fun f _ => ?_
  cases e : p f with
  | false => simp
  | true => simp [hp f e]

theorem removeWaiting_restarts {p : TxFrame → Bool} (hp : ∀ f, p f = true → f.ofRestart = false) (s : State) :
    (removeWaiting p s).line.restarts = s.line.restarts := by
  show (Line.refill _).restarts = _
  rw [Line.restarts_refill]
  simp only [Line.restarts, List.countP_append, countP_filter_not hp]

/-- The current frame, which answers no RESTART, leaves the queue. -/
theorem dropCurrent_restarts {s : State} {c : Current} (h : s.line.current = some c) (hr : c.frame.ofRestart = false) :
    (dropCurrent s).line.restarts = s.line.restarts ∧ (dropCurrent s).service = s.service := by
  have gone : ∀ u : State, noteGone c.frame u = u := fun u => by
    unfold noteGone
    split
    · rename_i r e
      rw [e] at hr
      exact if_neg (Bool.eq_false_iff.mp hr)
    · rfl
  unfold dropCurrent
  rw [h]
  simp only [gone]
  refine ⟨?_, rfl⟩
  rw [State.setLine_line, Line.restarts_refill]
  simp [Line.restarts, h, hr]

theorem dropCurrent_waits {s : State} {f : TxFrame} (h : Waits f s) : Waits f (dropCurrent s) := by
  unfold dropCurrent
  split
  · unfold Waits at h ⊢
    rw [noteGone_line, State.setLine_line]
    simp only [Line.refill, List.mem_append]
    generalize queueLimit - Line.size _ = k
    refine h.elim (fun h => .inl (.inl h)) fun h => ?_
    rw [← List.take_append_drop k s.line.backlog, List.mem_append] at h
    exact h.elim (fun h => .inl (.inr h)) .inr
  · exact h

/-- R33: the proposal's CLAIM leaves, and the responder is not concerned. -/
theorem removeProposal_restarts (g : Nat) (s : State) :
    (removeProposal g s).line.restarts = s.line.restarts ∧ (removeProposal g s).service = s.service := by
  have removed : ∀ u : State, (removeWaiting (TxFrame.proposalOf g) u).line.restarts = u.line.restarts :=
    removeWaiting_restarts fun _ => TxFrame.not_restart_of_proposal
  unfold removeProposal
  split
  · split
    · rename_i c hc hp
      obtain ⟨hl, hs⟩ := dropCurrent_restarts hc (TxFrame.not_restart_of_proposal hp)
      exact ⟨(removed _).trans hl, hs⟩
    · exact ⟨removed s, rfl⟩
  · exact ⟨removed s, rfl⟩

theorem removeProposal_waits {g : Nat} {s : State} {f : TxFrame} (hf : f.proposalOf g = false) (h : Waits f s) :
    Waits f (removeProposal g s) := by
  have removed : ∀ u : State, Waits f u → Waits f (removeWaiting (TxFrame.proposalOf g) u) := fun u hu =>
    (removeWaiting_waits _ u f).mpr ⟨hu, hf⟩
  unfold removeProposal
  split
  · split
    · exact removed _ (dropCurrent_waits h)
    · exact removed s h
  · exact removed s h

/-! ### What a step of a judgement passes over -/

/-- What passes unharmed through the steps of a judgement: the parts but `ps`, the responder but its mark, the events but
`es`, the CLAIMs past proposal of the groups outside `freed`, and the RELEASEs WITHDRAWN. -/
structure Passes (ps : List Part) (es : List Event) (freed : Nat → Prop) (s t : State) : Prop where
  keeps : Keeps ps s t
  service : RestartNoted s t
  restarts : t.line.restarts ≤ s.line.restarts
  events : EventsKept es s t
  length : t.events.cells.length = s.events.cells.length
  claims : ∀ g b, b.phase ≠ .proposed → ¬ freed g → Waits (.claim g b) s → Waits (.claim g b) t
  releases : ∀ g, Waits (.release g .withdrawn) s → Waits (.release g .withdrawn) t

theorem Passes.refl (ps : List Part) (es : List Event) (freed : Nat → Prop) (s : State) : Passes ps es freed s s :=
  ⟨Keeps.refl _ s, RestartNoted.refl s, Nat.le_refl _, EventsKept.refl _ s, rfl, fun _ _ _ _ h => h, fun _ h => h⟩

/-- R178: the mark is set over two steps exactly where it is set over one, since no step adds a REPLY. -/
theorem RestartNoted.trans {s t u : State} (h : RestartNoted s t) (k : RestartNoted t u)
    (ht : t.line.restarts ≤ s.line.restarts) (hu : u.line.restarts ≤ t.line.restarts) : RestartNoted s u := by
  unfold RestartNoted State.restartGone at h k ⊢
  have mark : (decide (t.line.restarts < s.line.restarts) || decide (u.line.restarts < t.line.restarts)) =
      decide (u.line.restarts < s.line.restarts) := by
    rw [← Bool.decide_or]
    exact decide_eq_decide.mpr (by omega)
  rw [k, h]
  simp only [Bool.or_assoc, mark]

theorem Passes.trans {ps : List Part} {es : List Event} {freed : Nat → Prop} {s t u : State} (h : Passes ps es freed s t)
    (k : Passes ps es freed t u) : Passes ps es freed s u where
  keeps := h.keeps.trans k.keeps
  service := h.service.trans k.service h.restarts k.restarts
  restarts := k.restarts.trans h.restarts
  events := h.events.trans k.events
  length := k.length.trans h.length
  claims g b hb hg hw := k.claims g b hb hg (h.claims g b hb hg hw)
  releases g hw := k.releases g (h.releases g hw)

theorem Passes.mono {ps qs : List Part} {es fs : List Event} {freed more : Nat → Prop} {s t : State}
    (h : Passes ps es freed s t) (hp : ∀ p ∈ ps, p ∈ qs) (he : ∀ e ∈ es, e ∈ fs) (hf : ∀ g, freed g → more g) :
    Passes qs fs more s t :=
  { h with
    keeps := h.keeps.mono hp
    events := h.events.mono he
    claims := fun g b hb hg => h.claims g b hb (fun hfg => hg (hf g hfg)) }

theorem Passes.foldl {α : Type} {ps : List Part} {es : List Event} {freed : Nat → Prop} {f : State → α → State} (l : List α)
    (h : ∀ s, ∀ x ∈ l, Passes ps es freed s (f s x)) (s : State) : Passes ps es freed s (l.foldl f s) := by
  induction l generalizing s with
  | nil => exact Passes.refl _ _ _ s
  | cons x xs ih =>
    exact (h s x List.mem_cons_self).trans (ih (fun s y hy => h s y (List.mem_cons_of_mem _ hy)) (f s x))

/-- A step that touches neither the line, the responder nor the events. -/
theorem Passes.of_keeps {ps : List Part} {es : List Event} {freed : Nat → Prop} {s t : State} (h : Keeps ps s t)
    (hl : t.line = s.line) (hs : t.service = s.service) (he : t.events = s.events) : Passes ps es freed s t where
  keeps := h
  service := .of_same hs (by rw [hl])
  restarts := by rw [hl]
  events := .of_events he
  length := by rw [he]
  claims _ _ _ _ := (Waits.of_line hl).mpr
  releases _ := (Waits.of_line hl).mpr

theorem raise_passes {ps : List Part} {es : List Event} {freed : Nat → Prop} (e : Event) (d : Detail) (s : State)
    (hp : Part.events ∈ ps) (he : e ∈ es) : Passes ps es freed s (raise e d s) where
  keeps := (raise_keeps e d s).mono fun p h => by rw [List.mem_singleton.mp h]; exact hp
  service := .of_same rfl rfl
  restarts := Nat.le_refl _
  events := (raise_eventsKept e d s).mono fun p h => by rw [List.mem_singleton.mp h]; exact he
  length := raise_cells_length e d s
  claims _ _ _ _ h := h
  releases _ h := h

/-- R33: a withdrawal with reason WITHDRAWN lets the CLAIMs past proposal and the RELEASEs WITHDRAWN wait on. -/
theorem withdrawQuiet_passes (g : Nat) (s : State) :
    Passes [.groups, .line, .events, .service] [] (fun _ => False) s (withdrawQuiet g (some .withdrawn) s) := by
  have hk := withdrawQuiet_keeps g (some .withdrawn) s
  unfold withdrawQuiet at hk ⊢
  split
  · rename_i hp
    rw [if_pos hp] at hk
    obtain ⟨restarts, service⟩ := removeProposal_restarts g s
    have noted := offer_noted (.release g .withdrawn) (removeProposal g s) rfl
    have cells : (removeProposal g s).events = s.events := removeProposal_keeps g s .events (by decide)
    refine ⟨hk, ?_, ?_, ?_, ?_, fun h b hb _ hw => ?_, fun h hw => ?_⟩
    · exact (RestartNoted.of_same service restarts).trans noted restarts.le (offer_restarts rfl)
    · exact (offer_restarts rfl).trans restarts.le
    · exact (EventsKept.of_events cells).trans (offer_eventsKept _ _)
    · exact (offer_cells_length _ _).trans (by rw [cells])
    · exact offer_waits_other (f := .release g .withdrawn) rfl rfl rfl
        (removeProposal_waits (by simp [TxFrame.proposalOf, hb]) hw)
    · by_cases e : g = h
      · subst e
        exact offer_waits _ _ rfl
      · exact offer_waits_other (f := .release g .withdrawn) rfl rfl (decide_eq_false e) (removeProposal_waits rfl hw)
  · exact Passes.refl _ _ _ s

/-- R33: the RELEASE of a withdrawn group waits. -/
theorem withdrawQuiet_waits (g : Nat) (r : Reason) (s : State) (h : (s.group g).state = .proposed) :
    Waits (.release g r) (withdrawQuiet g (some r) s) := by
  unfold withdrawQuiet
  rw [if_pos h]
  exact offer_waits (.release g r) (removeProposal g s) rfl

theorem State.lt_of_state {s : State} {g : Nat} (h : (s.group g).state ≠ .unused) : g < s.groups.length :=
  Nat.lt_of_not_le fun hl => h (by rw [State.group_outside s g hl]; rfl)

/-- R33, R16: the withdrawn group, as the statements say it. -/
theorem withdrawQuiet_withdrawn (g : Nat) (r : Option Reason) (s : State) (h : (s.group g).state = .proposed) :
    Withdrawn g s (withdrawQuiet g r s) := by
  unfold Withdrawn
  rw [withdrawQuiet_group g r s (State.lt_of_state (by rw [h]; decide)) h]
  simp [Group.enter, h, GState.stored, backoffMinutes, State.ownAddress]

theorem withdrawQuiet_kept (g : Nat) (r : Option Reason) (s : State) (h : (s.group g).state ≠ .proposed) :
    withdrawQuiet g r s = s := if_neg h

end Sys2Proof.Machine

namespace Sys2Proof.Machine

/-! ## The load contest and the overrun latch (R35, R37, R48) -/

/-! ### The order of the contest -/

theorem State.weakerThan_iff (s : State) (h g : Nat) : s.weakerThan h g = true ↔ s.JudgedBefore h g := by
  simp [State.weakerThan, State.JudgedBefore]

theorem State.JudgedBefore.asymm {s : State} {h g : Nat} (a : s.JudgedBefore h g) : ¬ s.JudgedBefore g h := by
  unfold State.JudgedBefore at *
  omega

theorem State.JudgedBefore.trans {s : State} {f g h : Nat} (a : s.JudgedBefore f g) (b : s.JudgedBefore g h) :
    s.JudgedBefore f h := by
  unfold State.JudgedBefore at *
  omega

theorem State.judgedBefore_total (s : State) {h g : Nat} (ne : h ≠ g) : s.JudgedBefore h g ∨ s.JudgedBefore g h := by
  unfold State.JudgedBefore
  omega

theorem insertWeakest_perm (s : State) (g : Nat) (l : List Nat) : (insertWeakest s g l).Perm (g :: l) := by
  induction l with
  | nil => exact .refl _
  | cons h hs ih =>
    unfold insertWeakest
    split
    · exact .refl _
    · exact (ih.cons h).trans (List.Perm.swap g h hs)

theorem insertWeakest_sorted (s : State) (g : Nat) (l : List Nat) (hg : g ∉ l) (h : l.Pairwise s.JudgedBefore) :
    (insertWeakest s g l).Pairwise s.JudgedBefore := by
  induction l with
  | nil => exact List.pairwise_singleton _ _
  | cons x xs ih =>
    obtain ⟨hx, hxs⟩ := List.pairwise_cons.mp h
    unfold insertWeakest
    split
    · rename_i c
      have gx := (s.weakerThan_iff g x).mp c
      exact List.pairwise_cons.mpr ⟨fun y hy => (List.mem_cons.mp hy).elim (fun e => e ▸ gx) fun m => gx.trans (hx y m), h⟩
    · rename_i c
      have xg := (s.judgedBefore_total (fun e => hg (e ▸ List.mem_cons_self) : g ≠ x)).resolve_left
        fun hb => c ((s.weakerThan_iff g x).mpr hb)
      refine List.pairwise_cons.mpr ⟨fun y hy => ?_, ih (fun m => hg (List.mem_cons_of_mem _ m)) hxs⟩
      exact (List.mem_cons.mp ((insertWeakest_perm s g xs).mem_iff.mp hy)).elim (fun e => e ▸ xg) (hx y)

theorem contestOrder_of (s : State) (l : List Nat) (h : l.Nodup) :
    (l.foldr (insertWeakest s) []).Perm l ∧ (l.foldr (insertWeakest s) []).Pairwise s.JudgedBefore := by
  induction l with
  | nil => exact ⟨.refl _, List.Pairwise.nil⟩
  | cons x xs ih =>
    obtain ⟨hx, hxs⟩ := List.nodup_cons.mp h
    obtain ⟨perm, sorted⟩ := ih hxs
    exact ⟨(insertWeakest_perm s x _).trans (perm.cons x),
      insertWeakest_sorted s x _ (fun m => hx (perm.mem_iff.mp m)) sorted⟩

theorem State.groupsIn_nodup (s : State) (p : GState → Bool) : (s.groupsIn p).Nodup :=
  List.Nodup.filter _ List.nodup_range

/-- R37: the contest takes each own PROPOSED group once, the lowest precedence first. -/
theorem State.contestOrder_sorted (s : State) : s.contestOrder.Pairwise s.JudgedBefore :=
  (contestOrder_of s _ (s.groupsIn_nodup _)).2

theorem State.mem_contestOrder (s : State) (g : Nat) : g ∈ s.contestOrder ↔ g < 24 ∧ (s.group g).state = .proposed := by
  rw [State.contestOrder, (contestOrder_of s _ (s.groupsIn_nodup _)).1.mem_iff, s.mem_groupsIn, decide_eq_true_iff]

/-! ### A state with some PROPOSED groups withdrawn -/

/-- Of the groups, some that were PROPOSED have been withdrawn, and the others are as they were. -/
structure Thinned (s u : State) : Prop where
  figures : u.figures = s.figures
  group : ∀ h, u.group h = s.group h ∨ ((s.group h).state = .proposed ∧ Withdrawn h s u)

theorem Thinned.refl (s : State) : Thinned s s := ⟨rfl, fun _ => .inl rfl⟩

theorem Thinned.of_same {s u : State} (hf : u.figures = s.figures) (hg : u.groups = s.groups) : Thinned s u :=
  ⟨hf, fun h => .inl (State.group_of_groups hg h)⟩

theorem Withdrawn.state {g : Nat} {s t : State} (h : Withdrawn g s t) : (t.group g).state = .due := by rw [h]

theorem Withdrawn.defn {g : Nat} {s t : State} (h : Withdrawn g s t) : (t.group g).defn = (s.group g).defn := by rw [h]

theorem Withdrawn.claimUrgency {g : Nat} {s t : State} (h : Withdrawn g s t) :
    (t.group g).claimUrgency = (s.group g).claimUrgency := by rw [h]

/-- A withdrawal said of a state whose group and figures were the same. -/
theorem Withdrawn.of_same {g : Nat} {s s' t t' : State} (h : Withdrawn g s t) (hs : s'.group g = s.group g)
    (hf : s'.figures = s.figures) (ht : t'.group g = t.group g) : Withdrawn g s' t' := by
  unfold Withdrawn at h ⊢
  rw [hs, hf, ht, h]

theorem Thinned.trans {s t u : State} (h : Thinned s t) (k : Thinned t u) : Thinned s u where
  figures := k.figures.trans h.figures
  group g := by
    rcases h.group g with hg | ⟨hp, hw⟩
    · rcases k.group g with kg | ⟨kp, kw⟩
      · exact .inl (kg.trans hg)
      · exact .inr ⟨hg ▸ kp, kw.of_same hg.symm h.figures.symm rfl⟩
    · rcases k.group g with kg | ⟨kp, -⟩
      · exact .inr ⟨hp, hw.of_same rfl rfl kg⟩
      · rw [hw.state] at kp
        cases kp

theorem Thinned.defn {s u : State} (h : Thinned s u) (g : Nat) : (u.group g).defn = (s.group g).defn :=
  (h.group g).elim (fun e => by rw [e]) fun e => e.2.defn

theorem Thinned.claimUrgency {s u : State} (h : Thinned s u) (g : Nat) :
    (u.group g).claimUrgency = (s.group g).claimUrgency := (h.group g).elim (fun e => by rw [e]) fun e => e.2.claimUrgency

theorem Thinned.kept {s u : State} (h : Thinned s u) {g : Nat} (hg : (s.group g).state ≠ .proposed) :
    u.group g = s.group g := (h.group g).resolve_right fun e => hg e.1

theorem Thinned.past {s u : State} (h : Thinned s u) (g : Nat) : (u.group g).state.past = (s.group g).state.past := by
  rcases h.group g with e | ⟨hp, hw⟩
  · rw [e]
  · rw [hw.state, hp]
    rfl

theorem withdrawQuiet_thinned (g : Nat) (r : Option Reason) (s : State) : Thinned s (withdrawQuiet g r s) where
  figures := withdrawQuiet_keeps g r s .figures (by decide)
  group h := by
    by_cases hp : (s.group g).state = .proposed
    · by_cases e : h = g
      · rw [e]
        exact .inr ⟨hp, withdrawQuiet_withdrawn g r s hp⟩
      · exact .inl (withdrawQuiet_group_ne g h r s e)
    · rw [withdrawQuiet_kept g r s hp]
      exact .inl rfl

theorem sum_filter_split (l : List Nat) (p q r : Nat → Bool) (w : Nat → Nat)
    (h : ∀ x ∈ l, (p x = true ↔ q x = true ∨ r x = true) ∧ ¬ (q x = true ∧ r x = true)) :
    ((l.filter q).map w).sum + ((l.filter r).map w).sum = ((l.filter p).map w).sum := by
  induction l with
  | nil => rfl
  | cons x xs ih =>
    have hx := h x List.mem_cons_self
    have := ih fun y hy => h y (List.mem_cons_of_mem _ hy)
    cases hp : p x <;> cases hq : q x <;> cases hr : r x <;> simp [hp, hq, hr] at hx ⊢ <;> omega

theorem State.ownWeight_eq (s : State) :
    s.ownWeight =
      (((List.range 24).filter (fun g => (s.group g).state.reduced)).map (fun g => (s.group g).defn.members.length)).sum :=
  rfl

/-- R13: the own reduced weight after withdrawals is less by the weights withdrawn. -/
theorem Thinned.ownWeight {s u : State} (h : Thinned s u) (lost : List Nat) (nodup : lost.Nodup)
    (mem : ∀ g, g ∈ lost ↔ g < 24 ∧ (s.group g).state = .proposed ∧ (u.group g).state = .due) :
    u.ownWeight + (lost.map (fun g => (s.group g).weight)).sum = s.ownWeight := by
  let gone : Nat → Bool := fun g => decide ((s.group g).state = .proposed ∧ (u.group g).state = .due)
  have perm : lost.Perm ((List.range 24).filter gone) := by
    rw [List.perm_ext_iff_of_nodup nodup (List.Nodup.filter _ List.nodup_range)]
    intro g
    rw [mem, List.mem_filter, List.mem_range, decide_eq_true_iff]
  have same : u.ownWeight =
      (((List.range 24).filter (fun g => (u.group g).state.reduced)).map (fun g => (s.group g).weight)).sum := by
    rw [State.ownWeight_eq]
    exact congrArg List.sum (List.map_congr_left fun g _ => by rw [h.defn]; rfl)
  rw [(perm.map _).sum_eq, same]
  refine sum_filter_split _ (fun g => (s.group g).state.reduced) _ gone _ fun g _ => ?_
  rcases h.group g with e | ⟨hp, hw⟩
  · simp only [gone, e, decide_eq_true_iff]
    cases (s.group g).state <;> simp [GState.reduced]
  · simp [gone, hw.state, hp, GState.reduced]

theorem Thinned.ownWeight_le {s u : State} (h : Thinned s u) : u.ownWeight ≤ s.ownWeight := by
  have := h.ownWeight ((List.range 24).filter (fun g => decide ((s.group g).state = .proposed ∧ (u.group g).state = .due)))
    (List.Nodup.filter _ List.nodup_range) fun g => by rw [List.mem_filter, List.mem_range, decide_eq_true_iff]
  omega

/-! ### One step of the contest -/

theorem State.contested_iff (s : State) (g : Nat) : s.contested g = true ↔ s.Contested g := by
  unfold State.contested State.Contested
  rw [List.any_eq_true]
  refine exists_congr fun e => and_congr_right fun _ => ?_
  rw [Bool.or_eq_true, decide_eq_true_iff]
  unfold State.outranks Entry.judged State.ownAddress
  cases e.full with
  | none => simp
  | some f => simp

theorem contestGroup_thinned (s : State) (g : Nat) : Thinned s (contestGroup s g) := by
  unfold contestGroup
  split
  · exact withdrawQuiet_thinned g _ s
  · exact Thinned.refl s

theorem contestGroup_passes (s : State) (g : Nat) :
    Passes [.groups, .line, .events, .service] [] (fun _ => False) s (contestGroup s g) := by
  unfold contestGroup
  split
  · exact withdrawQuiet_passes g s
  · exact Passes.refl _ _ _ s

theorem contestGroup_group_ne (s : State) {g h : Nat} (ne : h ≠ g) : (contestGroup s g).group h = s.group h := by
  unfold contestGroup
  split
  · exact withdrawQuiet_group_ne g h _ s ne
  · rfl

theorem contest_thinned (l : List Nat) (s : State) : Thinned s (l.foldl contestGroup s) := by
  induction l generalizing s with
  | nil => exact Thinned.refl s
  | cons x xs ih => exact (contestGroup_thinned s x).trans (ih _)

theorem contest_passes (l : List Nat) (s : State) :
    Passes [.groups, .line, .events, .service] [] (fun _ => False) s (l.foldl contestGroup s) :=
  Passes.foldl l (fun s g _ => contestGroup_passes s g) s

theorem contest_group_ne (l : List Nat) (s : State) {h : Nat} (hl : h ∉ l) : (l.foldl contestGroup s).group h = s.group h := by
  induction l generalizing s with
  | nil => rfl
  | cons x xs ih =>
    obtain ⟨hx, hxs⟩ := not_or.mp (mt List.mem_cons.mpr hl)
    exact (ih _ hxs).trans (contestGroup_group_ne s hx)

/-- R37: what the contest leaves of a PROPOSED group `g`, with `lost` the groups before it that it has withdrawn. -/
theorem contest_group (s : State) (before after : List Nat) (g : Nat) (e : s.contestOrder = before ++ g :: after) :
    ∃ u, Thinned s u ∧ u.viewLoad = s.viewLoad ∧ (∀ h ∈ before, (loadContest s).group h = u.group h) ∧
      (∀ h, h ∉ before → u.group h = s.group h) ∧
      (s.figures.cap < u.totalLoad ∧ s.Contested g →
        Withdrawn g s (loadContest s) ∧ Waits (.release g .withdrawn) (loadContest s)) ∧
      (¬ (s.figures.cap < u.totalLoad ∧ s.Contested g) → (loadContest s).group g = s.group g) := by
  have sorted := s.contestOrder_sorted
  rw [e] at sorted
  obtain ⟨-, sortedAfter, cross⟩ := List.pairwise_append.mp sorted
  have notBefore : g ∉ before := fun m => (cross g m g List.mem_cons_self).asymm (cross g m g List.mem_cons_self)
  have notAfter : g ∉ after := fun m => (List.rel_of_pairwise_cons sortedAfter m).asymm (List.rel_of_pairwise_cons sortedAfter m)
  have gp := (s.mem_contestOrder g).mp (by rw [e]; simp)
  let u := before.foldl contestGroup s
  have thin : Thinned s u := contest_thinned before s
  have keeps := (contest_passes before s).keeps
  have view : u.view = s.view := keeps .view (by decide)
  have hg : u.group g = s.group g := contest_group_ne before s notBefore
  have whole : loadContest s = after.foldl contestGroup (contestGroup u g) := by
    unfold loadContest
    rw [e, List.foldl_append]
    rfl
  have contested : u.contested g = true ↔ s.Contested g := by
    rw [u.contested_iff]
    unfold State.Contested
    rw [view, hg, thin.figures]
  refine ⟨u, thin, by unfold State.viewLoad; rw [view], fun h hb => ?_, fun h hb => contest_group_ne before s hb, fun hc => ?_,
    fun hc => ?_⟩
  · have ne : h ≠ g := fun e => notBefore (e ▸ hb)
    have na : h ∉ after := fun m =>
      (cross h hb h (List.mem_cons_of_mem _ m)).asymm (cross h hb h (List.mem_cons_of_mem _ m))
    rw [whole, contest_group_ne after _ na, contestGroup_group_ne u ne]
  · have step : contestGroup u g = withdrawQuiet g (some .withdrawn) u :=
      if_pos ⟨by rw [thin.figures]; exact hc.1, contested.mpr hc.2⟩
    have up : (u.group g).state = .proposed := by rw [hg]; exact gp.2
    rw [whole, step]
    exact ⟨(withdrawQuiet_withdrawn g _ u up).of_same hg.symm thin.figures.symm (contest_group_ne after _ notAfter),
      (contest_passes after _).releases g (withdrawQuiet_waits g .withdrawn u up)⟩
  · have step : contestGroup u g = u := if_neg fun h => hc ⟨by rw [← thin.figures]; exact h.1, contested.mp h.2⟩
    rw [whole, contest_group_ne after _ notAfter, step, hg]

/-! ### The load steps -/

theorem evalOverrun_group (s : State) (g : Nat) : (evalOverrun s).group g = s.group g :=
  State.group_of_groups (evalOverrun_keeps s .groups (by decide)) g

theorem evalOverrun_passes (s : State) : Passes [.overrun, .events] [.loadOver] (fun _ => False) s (evalOverrun s) := by
  unfold evalOverrun
  split
  · split
    · split
      · exact Passes.refl _ _ _ s
      · refine Passes.trans (t := { s with overrun := true }) (Passes.of_keeps (fun p h => ?_) rfl rfl rfl)
          (raise_passes _ _ _ (by decide) (by decide))
        cases p <;> first | rfl | simp at h
    · exact Passes.of_keeps (fun p h => by cases p <;> first | rfl | simp at h) rfl rfl rfl
  · exact Passes.of_keeps (fun p h => by cases p <;> first | rfl | simp at h) rfl rfl rfl

theorem loadSteps_passes (s : State) :
    Passes [.groups, .line, .events, .service, .overrun] [.loadOver] (fun _ => False) s (loadSteps s) :=
  ((contest_passes _ s).mono (by decide) (by decide) (fun _ h => h)).trans
    ((evalOverrun_passes _).mono (by decide) (by decide) (fun _ h => h))

theorem loadSteps_thinned (s : State) : Thinned s (loadSteps s) := by
  have h := contest_thinned s.contestOrder s
  exact h.trans (.of_same (evalOverrun_keeps _ .figures (by decide)) (evalOverrun_keeps _ .groups (by decide)))

/-- R35, steps 2 and 3: the load steps leave what the statements say. -/
theorem loadSteps_spec (s : State) : LoadSteps s (loadSteps s) := by
  have passes := loadSteps_passes s
  have quiet := contest_passes s.contestOrder s
  refine ⟨passes.keeps, passes.service, fun g hg => (loadSteps_thinned s).kept hg, fun g hg hp lost nodup mem => ?_, ?_,
    fun e h1 h2 => passes.events.2 e (by simpa using h1) h2, fun g b hb hw => passes.claims g b hb id hw, passes.releases⟩
  · obtain ⟨before, after, order⟩ := List.append_of_mem ((s.mem_contestOrder g).mpr ⟨hg, hp⟩)
    have sorted := s.contestOrder_sorted
    rw [order] at sorted
    obtain ⟨-, sortedAfter, cross⟩ := List.pairwise_append.mp sorted
    obtain ⟨u, thin, load, beforeKept, othersKept, withdrawn, kept⟩ := contest_group s before after g order
    have split : ∀ h, h < 24 → (s.group h).state = .proposed → (s.JudgedBefore h g ↔ h ∈ before) := fun h h24 hs => by
      refine ⟨fun hb => ?_, fun hb => cross h hb g List.mem_cons_self⟩
      have m : h ∈ before ++ g :: after := order ▸ (s.mem_contestOrder h).mpr ⟨h24, hs⟩
      rcases List.mem_append.mp m with m | m
      · exact m
      · rcases List.mem_cons.mp m with rfl | m
        · exact absurd hb hb.asymm
        · exact absurd hb (List.rel_of_pairwise_cons sortedAfter m).asymm
    have lostIff : ∀ h, h ∈ lost ↔ h < 24 ∧ (s.group h).state = .proposed ∧ (u.group h).state = .due := fun h => by
      rw [mem]
      refine and_congr_right fun h24 => and_congr_right fun hs => ?_
      rw [split h h24 hs]
      constructor
      · rintro ⟨hb, hd⟩
        rwa [← beforeKept h hb, ← evalOverrun_group]
      · intro hd
        have hb : h ∈ before := Classical.byContradiction fun hn => by
          rw [othersKept h hn, hs] at hd
          cases hd
        exact ⟨hb, by rw [← beforeKept h hb] at hd; exact (congrArg Group.state (evalOverrun_group _ h)).trans hd⟩
    have weight := thin.ownWeight lost nodup lostIff
    have total : u.totalLoad = s.viewLoad + s.ownWeight - (lost.map (fun h => (s.group h).weight)).sum := by
      unfold State.totalLoad
      omega
    rw [total] at withdrawn kept
    refine ⟨fun h => ?_, fun h => (evalOverrun_group _ g).trans (kept h)⟩
    obtain ⟨hw, hr⟩ := withdrawn h
    exact ⟨hw.of_same rfl rfl (evalOverrun_group _ g), (evalOverrun_passes _).releases g hr⟩
  · refine evalOverrun_relatched (congrArg Figures.cap (quiet.keeps .figures (by decide))) ?_ (quiet.keeps .overrun (by decide))
      quiet.length (quiet.events.2 .loadOver (by simp) (by decide))
    unfold State.viewLoad
    rw [show (loadContest s).view = s.view from quiet.keeps .view (by decide)]

end Sys2Proof.Machine

namespace Sys2Proof.Machine

/-! ## The payloads that come in (R28) -/

theorem byteAt_of_drop (p : List Byte) (k i : Nat) : byteAt (p.drop k) i = byteAt p (k + i) := by
  simp [byteAt, List.getD_eq_getElem?_getD]

theorem drop_eq_byteAt {p : List Byte} {i : Nat} (h : i < p.length) : ∃ b, p.drop i = b :: p.drop (i + 1) ∧ b.toNat = byteAt p i :=
  ⟨p[i], List.drop_eq_getElem_cons h, by simp [byteAt, List.getD_eq_getElem?_getD, List.getElem?_eq_getElem h]⟩

theorem fieldAt_two {p : List Byte} {i : Nat} (h : i + 2 ≤ p.length) : fieldAt p i 2 = 256 * byteAt p i + byteAt p (i + 1) := by
  obtain ⟨a, ha, na⟩ := drop_eq_byteAt (show i < p.length by omega)
  obtain ⟨b, hb, nb⟩ := drop_eq_byteAt (show i + 1 < p.length by omega)
  rw [fieldAt, ha, hb, ← na, ← nb]
  simp only [List.take_succ_cons, List.take_zero, natBE, List.foldl_cons, List.foldl_nil]
  omega

theorem fieldAt_four {p : List Byte} {i : Nat} (h : i + 4 ≤ p.length) :
    fieldAt p i 4 = 16777216 * byteAt p i + 65536 * byteAt p (i + 1) + 256 * byteAt p (i + 2) + byteAt p (i + 3) := by
  obtain ⟨a, ha, na⟩ := drop_eq_byteAt (show i < p.length by omega)
  obtain ⟨b, hb, nb⟩ := drop_eq_byteAt (show i + 1 < p.length by omega)
  obtain ⟨c, hc, nc⟩ := drop_eq_byteAt (show i + 2 < p.length by omega)
  obtain ⟨d, hd, nd⟩ := drop_eq_byteAt (show i + 3 < p.length by omega)
  rw [fieldAt, ha, hb, hc, hd, ← na, ← nb, ← nc, ← nd]
  simp only [List.take_succ_cons, List.take_zero, natBE, List.foldl_cons, List.foldl_nil]
  omega

theorem Phase.ofCode_code (ph : Phase) : Phase.ofCode ph.code.toNat = some ph := by cases ph <;> rfl

theorem Phase.ofCode_some {k : Nat} {ph : Phase} (h : Phase.ofCode k = some ph) : ph.code.toNat = k := by
  unfold Phase.ofCode at h
  split at h <;> cases h <;> rfl

theorem readsClaim (p : List Byte) : ReadsClaim p where
  taken := by
    intro k hlen hg phase hph
    have zones : ∀ i, i < k → fieldAt p (10 + 2 * i) 2 = 256 * byteAt p (10 + 2 * i) + byteAt p (11 + 2 * i) := fun i hi => by
      rw [fieldAt_two (by omega), show 10 + 2 * i + 1 = 11 + 2 * i by omega]
    unfold ClaimFrame.read
    rw [← hph, Phase.ofCode_code]
    simp only
    rw [if_pos ⟨hlen, hg⟩, fieldAt_two (i := 2) (by omega), fieldAt_two (i := 7) (by omega), fieldAt_two (i := 5) (by omega)]
    refine congrArg some ?_
    simp only [clamp, ClaimFrame.mk.injEq, FullClaim.mk.injEq, true_and, and_true]
    exact List.map_congr_left fun i hi => by rw [zones i (List.mem_range.mp hi)]
  discarded := by
    intro h
    unfold ClaimFrame.read
    split
    · rename_i phase hph
      refine if_neg fun ⟨hlen, hg⟩ => ?_
      rcases h with h | h | h
      · exact absurd hlen (Nat.not_le.mpr h)
      · omega
      · exact h phase (Phase.ofCode_some hph)
    · rfl

theorem Reason.code_iff (k : Nat) : (∃ r : Reason, r.code.toNat = k) ↔ 1 ≤ k ∧ k ≤ 3 := by
  constructor
  · rintro ⟨r, rfl⟩
    cases r <;> decide
  · rintro ⟨h1, h3⟩
    interval_cases k
    · exact ⟨.withdrawn, rfl⟩
    · exact ⟨.complete, rfl⟩
    · exact ⟨.aborted, rfl⟩

theorem readsRelease (p : List Byte) : ReadsRelease p where
  taken hlen hg hr := by
    obtain ⟨h1, h3⟩ := (Reason.code_iff _).mp hr
    exact if_pos ⟨hlen, hg, h1, h3⟩
  discarded h := by
    refine if_neg fun ⟨hlen, hg, h1, h3⟩ => ?_
    obtain ⟨r, hr⟩ := (Reason.code_iff _).mpr ⟨h1, h3⟩
    rcases h with h | h | h
    · omega
    · omega
    · exact h r hr

/-- R28: the pairs that a BEACON's list reads as, position by position. -/
theorem readPairs_iff (k : Nat) (l : List Byte) (pairs : List (Nat × Phase)) :
    readPairs k l = some pairs ↔
      2 * k ≤ l.length ∧
        pairs.map (fun q => (q.1, q.2.code.toNat)) = (List.range k).map (fun i => (byteAt l (2 * i), byteAt l (2 * i + 1))) ∧
        ∀ q ∈ pairs, q.1 ≤ 0x17 := by
  induction k generalizing l pairs with
  | zero =>
    simp only [readPairs, Option.some.injEq, List.range_zero, List.map_nil, List.map_eq_nil_iff]
    constructor
    · rintro rfl
      exact ⟨Nat.zero_le _, rfl, nofun⟩
    · rintro ⟨-, rfl, -⟩
      rfl
  | succ k ih =>
    match l with
    | [] => simp [readPairs]
    | [_] => simp [readPairs]; omega
    | g :: ph :: rest =>
      have shift : (List.range (k + 1)).map (fun i => (byteAt (g :: ph :: rest) (2 * i), byteAt (g :: ph :: rest) (2 * i + 1))) =
          (g.toNat, ph.toNat) :: (List.range k).map (fun i => (byteAt rest (2 * i), byteAt rest (2 * i + 1))) := by
        rw [List.range_succ_eq_map, List.map_cons, List.map_map]
        rfl
      rw [shift]
      constructor
      · intro h
        unfold readPairs at h
        split at h
        · rename_i phase found hph hfound
          split at h
          · rename_i hg
            cases h
            obtain ⟨hlen, hmap, hall⟩ := (ih rest found).mp hfound
            refine ⟨by simp only [List.length_cons]; omega, ?_, fun q hq => ?_⟩
            · rw [List.map_cons, hmap, Phase.ofCode_some hph]
            · rcases List.mem_cons.mp hq with rfl | hq
              · exact hg
              · exact hall q hq
          · cases h
        · cases h
      · rintro ⟨hlen, hmap, hall⟩
        obtain ⟨q, qs, rfl⟩ : ∃ q qs, pairs = q :: qs := by
          cases pairs with
          | nil => cases hmap
          | cons q qs => exact ⟨q, qs, rfl⟩
        rw [List.map_cons, List.cons.injEq, Prod.mk.injEq] at hmap
        obtain ⟨⟨hg, hph⟩, hqs⟩ := hmap
        have hrest := (ih rest qs).mpr ⟨by simp only [List.length_cons] at hlen; omega, hqs,
          fun r hr => hall r (List.mem_cons_of_mem _ hr)⟩
        unfold readPairs
        rw [← hph, Phase.ofCode_code, hrest]
        have := hall q List.mem_cons_self
        simp only
        rw [if_pos (hg ▸ this), ← hg]

theorem readsBeacon (p : List Byte) : ReadsBeacon p where
  taken := by
    intro j hlen pairs hmap hall
    have read : readPairs (min 4 (byteAt p 8)) (p.drop 9) = some pairs := by
      refine (readPairs_iff _ _ _).mpr ⟨by rw [List.length_drop]; omega, hmap.trans ?_, hall⟩
      refine List.map_congr_left fun i _ => ?_
      rw [byteAt_of_drop, byteAt_of_drop, show 9 + (2 * i + 1) = 10 + 2 * i by omega]
    unfold BeaconFrame.read
    rw [read]
    simp only
    rw [if_pos (by omega), fieldAt_four (by omega), fieldAt_two (by omega)]
  discarded := by
    intro j h
    unfold BeaconFrame.read
    split
    · rename_i pairs read
      obtain ⟨hlen, hmap, hall⟩ := (readPairs_iff _ _ _).mp read
      rw [List.length_drop] at hlen
      refine if_neg fun h9 => ?_
      rcases h with h | ⟨i, hi, h⟩
      · omega
      · have count : pairs.length = j := by
          have := congrArg List.length hmap
          rwa [List.length_map, List.length_map, List.length_range] at this
        have hip : i < pairs.length := by omega
        have hir : (List.range (min 4 (byteAt p 8)))[i]? = some i := List.getElem?_range hi
        have entry := congrArg (fun l : List (Nat × Nat) => l[i]?) hmap
        simp only [List.getElem?_map, List.getElem?_eq_getElem hip, hir, Option.map_some,
          byteAt_of_drop, Option.some.injEq, Prod.mk.injEq] at entry
        obtain ⟨hg, hph⟩ := entry
        rcases h with h | h
        · have := hall _ (List.getElem_mem hip)
          omega
        · exact h pairs[i].2 (by rw [hph]; congr 1; omega)
    · rfl

end Sys2Proof.Machine

namespace Sys2Proof.Machine

/-! ## Frames that reach the part (R131, R138, R142 to R144) -/

/-! ### Every PROPOSED group withdrawn (R128, R39) -/

theorem withdraw_passes (g : Nat) (s : State) :
    Passes [.groups, .line, .events, .service, .overrun] [.loadOver] (fun _ => False) s (withdraw g (some .withdrawn) s) := by
  unfold withdraw
  split
  · exact ((withdrawQuiet_passes g s).mono (by decide) (by decide) fun _ h => h).trans
      ((evalOverrun_passes _).mono (by decide) (by decide) fun _ h => h)
  · exact Passes.refl _ _ _ s

theorem evalOverrun_thinned (s : State) : Thinned s (evalOverrun s) :=
  .of_same (evalOverrun_keeps s .figures (by decide)) (evalOverrun_keeps s .groups (by decide))

theorem withdraw_thinned (g : Nat) (r : Option Reason) (s : State) : Thinned s (withdraw g r s) := by
  unfold withdraw
  split
  · exact (withdrawQuiet_thinned g r s).trans (evalOverrun_thinned _)
  · exact Thinned.refl s

theorem withdrawals_thinned (r : Option Reason) (l : List Nat) (s : State) :
    Thinned s (l.foldl (fun t g => withdraw g r t) s) := by
  induction l generalizing s with
  | nil => exact Thinned.refl s
  | cons x xs ih => exact (withdraw_thinned x r s).trans (ih _)

theorem withdrawals_passes (l : List Nat) (s : State) :
    Passes [.groups, .line, .events, .service, .overrun] [.loadOver] (fun _ => False) s
      (l.foldl (fun t g => withdraw g (some .withdrawn) t) s) := Passes.foldl l (fun s g _ => withdraw_passes g s) s

theorem withdrawals_group_ne (r : Option Reason) (l : List Nat) (s : State) {h : Nat} (hl : h ∉ l) :
    (l.foldl (fun t g => withdraw g r t) s).group h = s.group h := by
  induction l generalizing s with
  | nil => rfl
  | cons x xs ih =>
    obtain ⟨hx, hxs⟩ := not_or.mp (mt List.mem_cons.mpr hl)
    exact (ih _ hxs).trans (withdraw_group_ne x h r s hx)

theorem withdrawAll_passes (s : State) :
    Passes [.groups, .line, .events, .service, .overrun] [.loadOver] (fun _ => False) s (withdrawAll (some .withdrawn) s) :=
  withdrawals_passes groupNumbers s

theorem withdrawAll_sup (r : Option Reason) (s : State) : (withdrawAll r s).sup = s.sup :=
  withdrawAll_keeps r s .sup (by decide)

theorem withdrawAll_thinned (r : Option Reason) (s : State) : Thinned s (withdrawAll r s) :=
  withdrawals_thinned r groupNumbers s

theorem withdrawAll_withdrawn (s : State) (g : Nat) (hg : g < 24) (hp : (s.group g).state = .proposed) :
    Withdrawn g s (withdrawAll (some .withdrawn) s) ∧ Waits (.release g .withdrawn) (withdrawAll (some .withdrawn) s) := by
  obtain ⟨before, after, order⟩ := List.append_of_mem (List.mem_range.mpr hg)
  have nodup : (before ++ g :: after).Nodup := order ▸ List.nodup_range
  obtain ⟨-, nodupAfter, cross⟩ := List.nodup_append.mp nodup
  have notBefore : g ∉ before := fun m => cross g m g List.mem_cons_self rfl
  have notAfter : g ∉ after := (List.nodup_cons.mp nodupAfter).1
  let u := before.foldl (fun t g => withdraw g (some .withdrawn) t) s
  have hu : u.group g = s.group g := withdrawals_group_ne _ before s notBefore
  have up : (u.group g).state = .proposed := by rw [hu]; exact hp
  have step : withdraw g (some .withdrawn) u = evalOverrun (withdrawQuiet g (some .withdrawn) u) := if_pos up
  have whole : withdrawAll (some .withdrawn) s =
      after.foldl (fun t g => withdraw g (some .withdrawn) t) (evalOverrun (withdrawQuiet g (some .withdrawn) u)) := by
    rw [← step, withdrawAll, groupNumbers, order, List.foldl_append]
    rfl
  rw [whole]
  have figures : u.figures = s.figures := (withdrawals_thinned _ before s).figures
  have kept := (withdrawals_group_ne (some .withdrawn) after (evalOverrun (withdrawQuiet g (some .withdrawn) u)) notAfter).trans
    (evalOverrun_group _ g)
  exact ⟨(withdrawQuiet_withdrawn g (some .withdrawn) u up).of_same hu.symm figures.symm kept,
    (withdrawals_passes after _).releases g ((evalOverrun_passes _).releases g (withdrawQuiet_waits g .withdrawn u up))⟩

/-- R48: the latch says whether the total exceeds the cap with an own group TESTING or RECOVERING. -/
def State.LatchFits (s : State) : Prop :=
  s.overrun = true ↔ (∃ g, g < 24 ∧ (s.group g).state.past = true) ∧ s.figures.cap < s.viewLoad + s.ownWeight

/-- R48: the latch is evaluated after withdrawals that led from `s` to `u`. -/
theorem evalOverrun_thinned_relatched {s u : State} (h : Thinned s u)
    (p : Passes [.groups, .line, .events, .service] [] (fun _ => False) s u) : Relatched s (evalOverrun u) := by
  refine evalOverrun_relatched (by rw [h.figures]) ?_ (p.keeps .overrun (by decide)) p.length
    (p.events.2 .loadOver (by simp) (by decide))
  unfold State.viewLoad
  rw [show u.view = s.view from p.keeps .view (by decide)]

theorem withdraw_latchFits (g : Nat) (s : State) (h : s.LatchFits) :
    (withdraw g (some .withdrawn) s).LatchFits ∧
      (withdraw g (some .withdrawn) s).events.cell Event.loadOver.number = s.events.cell Event.loadOver.number := by
  unfold withdraw
  split
  · have thin := withdrawQuiet_thinned g (some .withdrawn) s
    have latched := evalOverrun_thinned_relatched thin (withdrawQuiet_passes g s)
    have whole := thin.trans (evalOverrun_thinned _)
    have view : (evalOverrun (withdrawQuiet g (some .withdrawn) s)).view = s.view :=
      (evalOverrun_keeps _ .view (by decide)).trans (withdrawQuiet_keeps g _ s .view (by decide))
    refine ⟨?_, latched.quiet ?_⟩
    · unfold State.LatchFits State.viewLoad
      rw [view, whole.figures]
      exact latched.latch
    · by_cases ho : s.overrun = true
      · exact .inl ho
      · refine .inr (Bool.eq_false_of_not_eq_true fun hn => ho (h.mpr ?_))
        obtain ⟨⟨k, hk, past⟩, above⟩ := latched.latch.mp hn
        exact ⟨⟨k, hk, by rw [← whole.past]; exact past⟩,
          Nat.lt_of_lt_of_le above (Nat.add_le_add_left whole.ownWeight_le _)⟩
  · exact ⟨h, rfl⟩

theorem withdrawals_latchFits (l : List Nat) (s : State) (h : s.LatchFits) :
    (l.foldl (fun t g => withdraw g (some .withdrawn) t) s).LatchFits ∧
      (l.foldl (fun t g => withdraw g (some .withdrawn) t) s).events.cell Event.loadOver.number =
        s.events.cell Event.loadOver.number := by
  induction l generalizing s with
  | nil => exact ⟨h, rfl⟩
  | cons x xs ih =>
    obtain ⟨fits, same⟩ := withdraw_latchFits x s h
    obtain ⟨fits', same'⟩ := ih _ fits
    exact ⟨fits', same'.trans same⟩

theorem withdrawals_none (r : Option Reason) (l : List Nat) (s : State) (h : ∀ g ∈ l, (s.group g).state ≠ .proposed) :
    l.foldl (fun t g => withdraw g r t) s = s := by
  induction l with
  | nil => rfl
  | cons x xs ih =>
    rw [List.foldl_cons, show withdraw x r s = s from if_neg (h x List.mem_cons_self)]
    exact ih fun g hg => h g (List.mem_cons_of_mem _ hg)

theorem groupNumbers_split {before after : List Nat} {g : Nat} (e : groupNumbers = before ++ g :: after) :
    ∀ h ∈ before, h < g := fun h hh =>
  (List.pairwise_append.mp (e ▸ List.pairwise_lt_range : (before ++ g :: after).Pairwise (· < ·))).2.2 h hh g List.mem_cons_self

/-- R48 at a moment that withdraws every PROPOSED group: the first withdrawal alone can set the latch. -/
theorem withdrawAll_latch (s : State) : WithdrawnLatch s (withdrawAll (some .withdrawn) s) where
  unchanged h := by
    rw [withdrawAll, withdrawals_none _ groupNumbers s fun g hg => h g (List.mem_range.mp hg)]
    exact ⟨rfl, rfl⟩
  changed := by
    intro g hg hp least runs first
    obtain ⟨before, after, order⟩ := List.append_of_mem (List.mem_range.mpr hg)
    have start : before.foldl (fun t g => withdraw g (some .withdrawn) t) s = s :=
      withdrawals_none _ before s fun h hh => least h (groupNumbers_split order h hh)
    let v := evalOverrun (withdrawQuiet g (some .withdrawn) s)
    have whole : withdrawAll (some .withdrawn) s = after.foldl (fun t g => withdraw g (some .withdrawn) t) v := by
      rw [withdrawAll, groupNumbers, order, List.foldl_append, start, List.foldl_cons,
        show withdraw g (some .withdrawn) s = v from if_pos hp]
    have thin := (withdrawQuiet_thinned g (some .withdrawn) s).trans (evalOverrun_thinned _)
    have latched := evalOverrun_thinned_relatched (withdrawQuiet_thinned g (some .withdrawn) s) (withdrawQuiet_passes g s)
    have due : (v.group g).state = .due := by
      rw [show v.group g = _ from evalOverrun_group _ g]
      exact (withdrawQuiet_withdrawn g _ s hp).state
    have one : v.ownWeight + (s.group g).weight = s.ownWeight := by
      have := thin.ownWeight [g] (List.nodup_singleton g) fun h => by
        rw [List.mem_singleton]
        constructor
        · rintro rfl
          exact ⟨hg, hp, due⟩
        · rintro ⟨-, hs, hd⟩
          by_contra ne
          rw [show v.group h = _ from evalOverrun_group _ h, withdrawQuiet_group_ne g h _ s ne, hs] at hd
          cases hd
      simpa using this
    have total : s.viewLoad + v.ownWeight = first := by
      show _ = s.viewLoad + s.ownWeight - (s.group g).weight
      omega
    have view : v.view = s.view := (evalOverrun_keeps _ .view (by decide)).trans (withdrawQuiet_keeps g _ s .view (by decide))
    have fits : v.LatchFits := by
      unfold State.LatchFits State.viewLoad
      rw [view, thin.figures]
      exact latched.latch
    obtain ⟨fits', same⟩ := withdrawals_latchFits after v fits
    have rest := withdrawAll_thinned (some .withdrawn) s
    have viewAll : (withdrawAll (some .withdrawn) s).view = s.view := (withdrawAll_passes s).keeps .view (by decide)
    rw [← whole] at fits' same
    have latch : (withdrawAll (some .withdrawn) s).overrun = true ↔
        runs ∧ s.figures.cap < s.viewLoad + (withdrawAll (some .withdrawn) s).ownWeight := by
      unfold State.LatchFits State.viewLoad at fits'
      rw [fits', viewAll, rest.figures]
      exact and_congr_left fun _ => exists_congr fun h => and_congr_right fun _ => by rw [rest.past]
    have latchFirst : v.overrun = true ↔ runs ∧ s.figures.cap < first := by
      rw [← total, latched.latch]
      exact and_congr_left fun _ => exists_congr fun h => and_congr_right fun _ => by rw [thin.past]
    refine ⟨latch, fun clear above cells h hh past low => ?_, fun hq => ?_⟩
    · have := latched.raised clear (latchFirst.mpr ⟨⟨h, hh, past⟩, above⟩) cells h hh
        (by rw [thin.past]; exact past) fun k hk => by rw [thin.past]; exact low k hk
      unfold Occurs at this ⊢
      rw [same]
      exact this
    · rw [same]
      refine latched.quiet (hq.imp id fun h => Bool.eq_false_of_not_eq_true fun hn => ?_)
      obtain ⟨hr, above⟩ := latchFirst.mp hn
      rcases h with h | h
      · omega
      · exact h hr

/-- R48 said of a state whose figures, groups, view, latch and events were the same. -/
theorem WithdrawnLatch.of_same {s s' t : State} (h : WithdrawnLatch s' t) (hf : s.figures = s'.figures)
    (hg : s.groups = s'.groups) (hv : s.view = s'.view) (ho : s.overrun = s'.overrun) (he : s.events = s'.events) :
    WithdrawnLatch s t := by
  obtain ⟨unchanged, changed⟩ := h
  cases s
  cases s'
  cases hf
  cases hg
  cases hv
  cases ho
  cases he
  exact ⟨unchanged, changed⟩

/-! ### The supervisor takes a frame (R131, R138) -/

theorem relistens_iff (s : State) : (s.silent || decide (s.sup.mode = .standalone)) = true ↔ s.Relistens := by
  simp [State.silent, State.Relistens]

/-- R131: a station frame that does not take the station to LISTENING. -/
theorem stationFrame_quiet {s : State} (hc : s.sup.mode.configured = true) (hr : ¬ s.Relistens) :
    stationFrame s = s.setSup { s.sup with silence := some (s.figures.silence * 60) } := by
  unfold stationFrame
  rw [if_pos hc]
  exact if_neg fun h => hr ((relistens_iff s).mp h)

/-- R131, R138: the station in LISTENING, its PROPOSED groups not yet withdrawn. -/
def relistening (s : State) : State :=
  s.setSup
    { s.sup with
      mode := .listening, reason := .noReason, listen := some ((2 * s.figures.beacon + 1) * 60),
      silence := some (s.figures.silence * 60), fallback := none, clear := none }

/-- R131, R138, R128: a station frame that takes the station to LISTENING. -/
theorem stationFrame_relistens {s : State} (hc : s.sup.mode.configured = true) (hr : s.Relistens) :
    stationFrame s = withdrawAll (some .withdrawn) (relistening s) := by
  unfold stationFrame
  rw [if_pos hc]
  exact if_pos ((relistens_iff s).mpr hr)

theorem stationFrame_unconfigured {s : State} (h : s.sup.mode.configured = false) : stationFrame s = s :=
  if_neg (by rw [h]; decide)

theorem stationFrame_passes (s : State) :
    Passes [.sup, .groups, .line, .events, .service, .overrun] [.loadOver] (fun _ => False) s (stationFrame s) := by
  have sup : ∀ u, Passes [.sup, .groups, .line, .events, .service, .overrun] [.loadOver] (fun _ => False) s (s.setSup u) :=
    fun u => Passes.of_keeps ((setSup_keeps u s).mono (by decide)) rfl rfl rfl
  have all : Passes [.sup, .groups, .line, .events, .service, .overrun] [.loadOver] (fun _ => False) (relistening s)
      (withdrawAll (some .withdrawn) (relistening s)) :=
    (withdrawAll_passes _).mono (by decide) (by decide) fun _ h => h
  by_cases hc : s.sup.mode.configured = true
  · by_cases hr : s.Relistens
    · rw [stationFrame_relistens hc hr]
      exact Passes.trans (t := relistening s) (sup _) all
    · rw [stationFrame_quiet hc hr]
      exact sup _
  · rw [stationFrame_unconfigured (Bool.eq_false_of_not_eq_true hc)]
    exact Passes.refl _ _ _ s

theorem stationFrame_thinned (s : State) : Thinned s (stationFrame s) := by
  by_cases hc : s.sup.mode.configured = true
  · by_cases hr : s.Relistens
    · rw [stationFrame_relistens hc hr]
      exact Thinned.trans (t := relistening s) (.of_same rfl rfl) (withdrawAll_thinned _ _)
    · rw [stationFrame_quiet hc hr]
      exact .of_same rfl rfl
  · rw [stationFrame_unconfigured (Bool.eq_false_of_not_eq_true hc)]
    exact Thinned.refl s

theorem stationFrame_sup {s : State} (hc : s.sup.mode.configured = true) :
    (stationFrame s).sup.silence = some (s.figures.silence * 60) ∧ (stationFrame s).sup.mode.configured = true := by
  by_cases hr : s.Relistens
  · rw [stationFrame_relistens hc hr, withdrawAll_sup]
    exact ⟨rfl, rfl⟩
  · rw [stationFrame_quiet hc hr]
    exact ⟨rfl, hc⟩

/-- The supervisor's state at a frame of a station: the receiver idle, and then R131. -/
@[irreducible] def heard (s : State) : State := stationFrame (receiverIdle s)

theorem heard_sup {s : State} (hc : s.sup.mode.configured = true) :
    (heard s).sup.silence = some (s.figures.silence * 60) ∧ (heard s).sup.mode.configured = true := by
  unfold heard
  exact stationFrame_sup (s := receiverIdle s) hc

theorem heard_passes (s : State) :
    Passes [.sup, .groups, .line, .events, .service, .overrun] [.loadOver] (fun _ => False) s (heard s) := by
  unfold heard
  refine Passes.trans (t := receiverIdle s) ?_ (stationFrame_passes _)
  exact ⟨(receiverIdle_keeps s).mono (by decide), .of_same rfl rfl, Nat.le_refl _, .of_events rfl, rfl, fun _ _ _ _ h => h,
    fun _ h => h⟩

theorem heard_thinned (s : State) : Thinned s (heard s) := by
  have idle : Thinned s (receiverIdle s) := .of_same rfl rfl
  unfold heard
  exact idle.trans (stationFrame_thinned (receiverIdle s))

theorem heard_quiet {s : State} (hc : s.sup.mode.configured = true) (hr : ¬ s.Relistens) :
    heard s = (receiverIdle s).setSup { s.sup with silence := some (s.figures.silence * 60) } := by
  unfold heard
  exact stationFrame_quiet (s := receiverIdle s) hc hr

theorem heard_relistens {s : State} (hc : s.sup.mode.configured = true) (hr : s.Relistens) :
    heard s = withdrawAll (some .withdrawn) (relistening (receiverIdle s)) := by
  unfold heard
  exact stationFrame_relistens (s := receiverIdle s) hc hr

/-- R131, R138: what the supervisor leaves for the blocks behind it. -/
theorem heard_delivered {s : State} (hc : s.sup.mode.configured = true) : Delivered s (heard s) where
  keeps := (heard_passes s).keeps.mono (by decide)
  service := (heard_passes s).service
  listening hr := by
    rw [heard_relistens hc hr, withdrawAll_sup]
    have figures : s.figures = (relistening (receiverIdle s)).figures := rfl
    have thinned := withdrawAll_thinned (some .withdrawn) (relistening (receiverIdle s))
    refine ⟨rfl, fun g hg => ⟨fun hp => ?_, thinned.kept (g := g)⟩⟩
    obtain ⟨withdrawn, waits⟩ := withdrawAll_withdrawn (relistening (receiverIdle s)) g hg hp
    exact ⟨withdrawn.of_same rfl figures rfl, waits⟩
  latch hr := by
    rw [heard_relistens hc hr]
    exact (withdrawAll_latch (relistening (receiverIdle s))).of_same rfl rfl rfl rfl rfl
  cells e h1 h2 _ := (heard_passes s).events.2 e (by simpa using h1) h2
  quiet hr := by
    rw [heard_quiet hc hr]
    refine ⟨fun p h => ?_, rfl, rfl⟩
    cases p <;> first | rfl | simp at h

theorem heard_events {s : State} (hc : s.sup.mode.configured = true) (hr : ¬ s.Relistens) : (heard s).events = s.events := by
  rw [heard_quiet hc hr]
  rfl

theorem Delivered.relight {s w : State} (u : State) (h : Delivered s w) : Delivered s (relight u w) where
  keeps := h.keeps.relight
  service := h.service
  listening := h.listening
  latch hr := ⟨(h.latch hr).unchanged, (h.latch hr).changed⟩
  cells := h.cells
  quiet hr := ⟨(h.quiet hr).1.relight, (h.quiet hr).2⟩

theorem LoadSteps.relight {s t : State} (u : State) (h : LoadSteps s t) : LoadSteps s (relight u t) where
  keeps := h.keeps.relight
  service := h.service
  others := h.others
  contest := h.contest
  latch := ⟨h.latch.latch, h.latch.raised, h.latch.quiet⟩
  cells := h.cells
  claims := h.claims
  releases := h.releases

/-! ### The checks of a frame (R143, R144) -/

theorem Hears.receives {s : State} {src dst : Byte} (h : s.Hears src dst) : s.receives = true := by
  unfold State.receives
  rw [h.powered, h.free]
  rfl

theorem Hears.addressed {s : State} {src dst : Byte} (h : s.Hears src dst) : s.addressed src dst = true := by
  unfold State.addressed
  obtain ⟨h1, h2⟩ := h.source
  rw [decide_eq_true h1, decide_eq_true h2, ← Bool.decide_or, decide_eq_true h.destination]
  rfl

theorem not_clashes {s : State} {src : Byte} (h : src.toNat ≤ 222 → s.sup.address ≠ some src.toNat) : s.clashes src = false := by
  unfold State.clashes stationAddress
  by_cases hs : src.toNat ≤ 222
  · rw [decide_eq_false (h hs), Bool.and_false]
  · rw [decide_eq_false hs, Bool.and_false, Bool.false_and]

theorem Hears.stationAddress {s : State} {src dst : Byte} (h : s.Hears src dst) :
    stationAddress src.toNat = decide (src.toNat ≤ 222) := by
  unfold Machine.stationAddress
  rw [decide_eq_true h.source.1, Bool.true_and]

theorem Mode.ne_loading_of_configured {m : Mode} (h : m.configured = true) : m ≠ .loading := fun e => by
  rw [e] at h
  cases h

/-- A frame of a station that passes the checks, in a mode other than LOADING. -/
theorem deliver_heard {s : State} {src dst : Byte} (h : s.Hears src dst) (hm : s.sup.mode ≠ .loading) (hs : src.toNat ≤ 222)
    (f : State → State) (ms : Nat) : deliver src dst f (s.atMs ms) = f (heard (s.atMs ms)) := by
  unfold deliver
  rw [if_pos (Hears.receives (s := s.atMs ms) ⟨h.powered, h.free, h.source, h.destination⟩), if_pos]
  · rw [if_pos (by rw [Hears.stationAddress h]; exact decide_eq_true hs)]
    unfold heard
    rfl
  · rw [Hears.addressed (s := s.atMs ms) ⟨h.powered, h.free, h.source, h.destination⟩]
    exact decide_eq_true hm

/-- A CLAIM, RELEASE or BEACON that passes the checks reaches the blocks after the supervisor has taken it. -/
theorem deliverProtocol_heard {s : State} {src dst : Byte} (h : s.HearsPeer src dst) (f : State → State) (ms : Nat) :
    deliverProtocol src dst f (s.atMs ms) = f (heard (s.atMs ms)) := by
  have clash : (s.atMs ms).clashes src = false := not_clashes fun _ => h.other
  unfold deliverProtocol
  rw [if_neg (by rw [clash]; simp), deliver_heard h.hears (Mode.ne_loading_of_configured h.mode) h.station]
  rw [if_pos]
  rw [Hears.stationAddress h.hears, decide_eq_true h.station, Bool.true_and]
  exact (heard_sup (s := s.atMs ms) h.mode).2

/-! ### Entries leave the view (R54 to R56) -/

theorem removeEntry_passes (x g : Nat) (s : State) :
    Passes [.groups, .line, .events, .service, .overrun, .view] [.loadOver] (fun _ => False) s (removeEntry x g s) := by
  unfold removeEntry
  split
  · have view : ∀ v, Passes [.groups, .line, .events, .service, .overrun, .view] [.loadOver] (fun _ => False) s (s.setView v) :=
      fun v => Passes.of_keeps ((setView_keeps v s).mono (by decide)) rfl rfl rfl
    exact (view _).trans ((loadSteps_passes _).mono (by decide) (by decide) fun _ h => h)
  · exact Passes.refl _ _ _ s

theorem removeEntry_held {x g : Nat} {s : State} (h : s.view.any (fun e => e.hasKey x g) = true) :
    removeEntry x g s = loadSteps (s.setView (s.view.filter (fun e => !e.hasKey x g))) := if_pos h

theorem removeEntry_not_held {x g : Nat} {s : State} (h : s.view.any (fun e => e.hasKey x g) = false) :
    removeEntry x g s = s := if_neg (by rw [h]; decide)

theorem removeEntry_view (x g : Nat) (s : State) : (removeEntry x g s).view = s.view.filter (fun e => !e.hasKey x g) := by
  by_cases h : s.view.any (fun e => e.hasKey x g) = true
  · rw [removeEntry_held h]
    exact (loadSteps_passes _).keeps .view (by decide)
  · rw [removeEntry_not_held (Bool.eq_false_of_not_eq_true h)]
    refine (List.filter_eq_self.mpr fun e he => ?_).symm
    simp only [Bool.not_eq_true', Bool.eq_false_iff]
    exact fun hk => h (List.any_eq_true.mpr ⟨e, he, hk⟩)

/-- R50: entries of one key in a view without repeated keys are one entry. -/
theorem State.ViewLaw.eq_of_key {s : State} (h : s.ViewLaw) {e f : Entry} (he : e ∈ s.view) (hf : f ∈ s.view)
    (hk : f.hasKey e.station e.group = true) : f = e := by
  obtain ⟨hs, hg⟩ := of_decide_eq_true hk
  have : Std.Symm fun e f : Entry => ¬ (e.station = f.station ∧ e.group = f.group) :=
    ⟨fun _ _ h k => h ⟨k.1.symm, k.2.symm⟩⟩
  by_contra ne
  exact h.keys.forall hf he ne ⟨hs, hg⟩

theorem State.ViewLaw.nodup {s : State} (h : s.ViewLaw) : s.view.Nodup :=
  h.keys.imp fun h e => h ⟨congrArg Entry.station e, congrArg Entry.group e⟩

theorem Entry.hasKey_self (e : Entry) : e.hasKey e.station e.group = true := decide_eq_true ⟨rfl, rfl⟩

/-- R56, R35: entries that leave one after another, each with its load steps. -/
theorem removeEntries_loadSteps {s : State} (law : s.ViewLaw) (todo gone : List Entry) (u : State)
    (mem : ∀ e ∈ todo, e ∈ s.view) (nodup : (gone ++ todo).Nodup) (view : u.view = s.view.filter (fun e => !gone.contains e)) :
    LoadStepsFor ((List.range todo.length).map (fun k => s.view.filter (fun e => !(gone ++ todo.take (k + 1)).contains e))) u
        (todo.foldl (fun t e => removeEntry e.station e.group t) u) ∧
      (todo.foldl (fun t e => removeEntry e.station e.group t) u).view =
        s.view.filter (fun e => !(gone ++ todo).contains e) := by
  induction todo generalizing gone u with
  | nil => exact ⟨Keeps.refl _ u, by simpa using view⟩
  | cons x xs ih =>
    have nodup' : ((gone ++ [x]) ++ xs).Nodup := by rwa [List.append_assoc]
    have held : x ∈ u.view := by
      rw [view, List.mem_filter]
      refine ⟨mem x List.mem_cons_self, ?_⟩
      have : x ∉ gone := fun m => (List.nodup_append.mp nodup).2.2 x m x List.mem_cons_self rfl
      simpa using this
    have left : u.view.filter (fun e => !e.hasKey x.station x.group) =
        s.view.filter (fun e => !(gone ++ [x]).contains e) := by
      rw [view, List.filter_filter]
      refine List.filter_congr fun e he => ?_
      have key : e.hasKey x.station x.group = decide (e = x) := by
        rw [Bool.eq_iff_iff, decide_eq_true_iff]
        exact ⟨law.eq_of_key (mem x List.mem_cons_self) he, fun h => h ▸ x.hasKey_self⟩
      rw [key, Bool.eq_iff_iff]
      simp
      tauto
    have step : removeEntry x.station x.group u = loadSteps { u with view := s.view.filter (fun e => !(gone ++ [x]).contains e) } := by
      rw [removeEntry_held (List.any_eq_true.mpr ⟨x, held, x.hasKey_self⟩), left]
      rfl
    obtain ⟨chain, final⟩ := ih (gone ++ [x]) (removeEntry x.station x.group u) (fun e he => mem e (List.mem_cons_of_mem _ he))
      nodup' (by rw [removeEntry_view, left])
    rw [List.foldl_cons]
    refine ⟨?_, by rw [final, List.append_assoc]; rfl⟩
    rw [List.length_cons, List.range_succ_eq_map, List.map_cons, List.map_map]
    refine ⟨removeEntry x.station x.group u, ?_, ?_⟩
    · rw [step]
      simpa using loadSteps_spec { u with view := s.view.filter (fun e => !(gone ++ [x]).contains e) }
    · convert chain using 3
      simp [Function.comp, List.append_assoc]

theorem LoadStepsFor.relight {vs : List (List Entry)} {s t : State} (u : State) (h : LoadStepsFor vs s t) :
    LoadStepsFor vs s (relight u t) := by
  induction vs generalizing s with
  | nil => exact Keeps.relight h
  | cons v vs ih =>
    obtain ⟨w, hw, hr⟩ := h
    exact ⟨w, hw, ih hr⟩

theorem exec_releaseReceived {s : State} {src dst : Byte} {payload : List Byte} {ms : Nat} {r : ReleaseFrame}
    (h : s.HearsPeer src dst) (hr : ReleaseFrame.read payload = some r) :
    exec (.releaseReceived src dst payload ms) s = .next (relight s (removeEntry src.toNat r.group (heard (s.atMs ms)))) := by
  show execReleaseReceived src dst payload ms s = _
  unfold execReleaseReceived
  rw [live_powered _ h.hears.powered, deliverProtocol_heard h, hr]

theorem releaseLeaves (s : State) (src dst : Byte) (payload : List Byte) (ms : Nat) (r : ReleaseFrame)
    (h : s.HearsPeer src dst) (hr : ReleaseFrame.read payload = some r) :
    let key : Entry → Bool := fun e => decide (e.station = src.toNat ∧ e.group = r.group)
    ∃ t u, exec (.releaseReceived src dst payload ms) s = .next t ∧
      t.sup = u.sup ∧ t.sup.silence = some (s.figures.silence * 60) ∧
      t.view = s.view.filter (fun e => !key e) ∧
      Keeps [.sup, .groups, .line, .events, .service, .overrun, .view] (s.atMs ms) t ∧ RestartNoted s t ∧
      Delivered (s.atMs ms) u ∧ u.view = s.view ∧ u.overflow = s.overflow ∧
      u.events.cell Event.peerViewFull.number = s.events.cell Event.peerViewFull.number ∧
      (¬ s.Relistens → u.events = s.events) ∧
      (s.view.any key = true → LoadSteps { u with view := s.view.filter (fun e => !key e) } t) ∧
      (s.view.any key = false → Keeps [] u t) := by
  intro key
  let u := heard (s.atMs ms)
  let v := removeEntry src.toNat r.group u
  have up := heard_passes (s.atMs ms)
  have vp : Passes _ _ _ u v := removeEntry_passes src.toNat r.group u
  have view : u.view = s.view := up.keeps .view (by decide)
  have whole : Passes [.sup, .groups, .line, .events, .service, .overrun, .view] [.loadOver] (fun _ => False) (s.atMs ms) v :=
    (up.mono (by decide) (by decide) fun _ h => h).trans (vp.mono (by decide) (by decide) fun _ h => h)
  have sup : v.sup = u.sup := vp.keeps .sup (by decide)
  refine ⟨relight s v, u, exec_releaseReceived h hr, sup, ?_, ?_, whole.keeps.relight, whole.service, heard_delivered h.mode, view,
    up.keeps .overflow (by decide), up.events.2 .peerViewFull (by decide) (by decide), heard_events (s := s.atMs ms) h.mode, fun hk => ?_,
    fun hk => ?_⟩
  · rw [relight_sup, sup]
    exact (heard_sup (s := s.atMs ms) h.mode).1
  · rw [relight_view, ← view]
    exact removeEntry_view _ _ _
  · rw [← view] at hk ⊢
    rw [show v = loadSteps (u.setView (u.view.filter (fun e => !key e))) from removeEntry_held hk]
    exact (loadSteps_spec _).relight s
  · rw [← view] at hk
    rw [show v = u from removeEntry_not_held hk]
    exact Keeps.relight (Keeps.refl _ u)

theorem exec_entryAgeOut_found {s : State} {e : Entry} (hp : s.powered = true)
    (h : s.view.find? (fun e => decide (300 ≤ e.age)) = some e) :
    exec .entryAgeOut s = .next (relight s (removeEntry e.station e.group s)) := by
  show execEntryAgeOut s = _
  unfold execEntryAgeOut
  rw [live_powered _ hp, h]

theorem exec_entryAgeOut_none {s : State} (h : s.view.find? (fun e => decide (300 ≤ e.age)) = none) :
    exec .entryAgeOut s = .next s := by
  show execEntryAgeOut s = _
  unfold execEntryAgeOut live done
  by_cases hp : s.powered = true
  · rw [if_pos hp]
    simp only [h]
    exact congrArg Host.Outcome.next (relight_self s)
  · rw [if_neg hp]
    exact congrArg Host.Outcome.next (relight_self s)

/-- Settles O42. -/
theorem entriesLeaveTheView : Obligations.EntriesLeaveTheView := by
  refine ⟨loadSteps_spec, readsRelease, releaseLeaves, fun s before after e hp law hv young old => ?_, fun s young => ?_,
    fun s hp law => ?_⟩
  · have found : s.view.find? (fun e => decide (300 ≤ e.age)) = some e := by
      rw [hv, List.find?_append, List.find?_eq_none.mpr fun f hf => by simpa using young f hf]
      simp [old]
    have held : e ∈ s.view := by rw [hv]; simp
    have left : s.view.filter (fun f => !f.hasKey e.station e.group) = before ++ after := by
      have nodup := law.nodup
      have key : s.view.filter (fun f => !f.hasKey e.station e.group) = s.view.filter (fun f => decide (f ≠ e)) := by
        refine List.filter_congr fun f hf => ?_
        rw [Bool.eq_iff_iff, Bool.not_eq_true', Bool.eq_false_iff, decide_eq_true_iff]
        exact not_congr ⟨law.eq_of_key held hf, fun h => h ▸ e.hasKey_self⟩
      rw [key]
      rw [hv] at nodup ⊢
      obtain ⟨-, hn, hd⟩ := List.nodup_append.mp nodup
      have h1 : ∀ f ∈ before, decide (f ≠ e) = true := fun f hf => decide_eq_true (hd f hf e List.mem_cons_self)
      have h2 : ∀ f ∈ after, decide (f ≠ e) = true := fun f hf => decide_eq_true fun h => (List.nodup_cons.mp hn).1 (h ▸ hf)
      rw [List.filter_append, List.filter_cons_of_neg (by simp), List.filter_eq_self.mpr h1, List.filter_eq_self.mpr h2]
    have passes := removeEntry_passes e.station e.group s
    refine ⟨_, exec_entryAgeOut_found hp found, ?_, passes.keeps.relight, passes.service, ?_⟩
    · rw [relight_view, removeEntry_view, left]
    · rw [removeEntry_held (List.any_eq_true.mpr ⟨e, held, e.hasKey_self⟩), left]
      exact (loadSteps_spec _).relight s
  · exact exec_entryAgeOut_none (List.find?_eq_none.mpr fun e he => by simpa using young e he)
  · intro ended left
    have mem : ∀ e ∈ ended, e ∈ s.view := fun e he => (List.mem_filter.mp he).1
    have nodup : ended.Nodup := law.nodup.filter _
    obtain ⟨chain, view⟩ := removeEntries_loadSteps law ended [] s mem nodup (by simp)
    have passes : Passes [.groups, .line, .events, .service, .overrun, .view] [.loadOver] (fun _ => False) s (removeEnded s) :=
      Passes.foldl ended (fun t e _ => removeEntry_passes e.station e.group t) s
    refine ⟨relight s (removeEnded s), live_powered removeEnded hp, ?_, passes.keeps.relight, passes.service, ?_⟩
    · rw [relight_view, show (removeEnded s).view = _ from view]
      refine List.filter_congr fun e he => ?_
      rw [Bool.eq_iff_iff]
      simp [ended, he]
    · simp only [List.nil_append] at chain
      exact LoadStepsFor.relight s chain

end Sys2Proof.Machine

namespace Sys2Proof.Machine

/-! ## Frames that reach the supervisor alone, or no block (R126, R127, R142 to R144, R174) -/

/-! ### The rows by the way their frame is delivered -/

theorem service_arrives {s : State} {src dst : Byte} {ms : Nat} {i : Instr} (hp : s.powered = true)
    (hi : CarriesService src dst ms i) : ∃ answer, exec i s = .next (relight s (serve src dst answer (s.atMs ms))) := by
  have served : ∀ answer : State → State,
      live s (fun s => serve src dst answer (s.atMs ms)) = .next (relight s (serve src dst answer (s.atMs ms))) := fun answer =>
    live_powered (fun s => serve src dst answer (s.atMs ms)) hp
  rcases hi with ⟨args, hi⟩ | ⟨kind, payload, unknown, rfl⟩
  · simp only [List.mem_cons, List.not_mem_nil, or_false] at hi
    rcases hi with rfl | rfl | rfl | rfl | rfl | rfl | rfl | rfl | rfl | rfl | rfl | rfl | rfl | rfl | rfl | rfl <;>
      exact ⟨_, served _⟩
  · refine ⟨answerUnknown src kind payload, ?_⟩
    show execUnknownServiceCode src dst kind payload s ms = _
    unfold execUnknownServiceCode
    rw [live_powered _ hp, unknown]
    rfl

theorem other_arrives {s : State} {src dst kind : Byte} {ms : Nat} {i : Instr} (hp : s.powered = true)
    (hi : CarriesOther src dst kind ms i) (hs : s.servesFrame src dst kind = false) :
    exec i s = .next (relight s (deliver src dst (fun t => t) (s.atMs ms))) := by
  obtain ⟨rfl, h1, h2, h3⟩ := hi
  have own : ownRowKind kind = false := by simp [ownRowKind, h1, h2, h3]
  show execOtherFrameReceived src dst kind ms s = _
  unfold execOtherFrameReceived
  rw [live_powered _ hp, own, hs]
  rfl

theorem protocol_arrives {s : State} {src dst : Byte} {payload : List Byte} {ms : Nat} {i : Instr} (hp : s.powered = true)
    (hi : CarriesProtocol src dst payload ms i) :
    ∃ f, exec i s = .next (relight s (deliverProtocol src dst f (s.atMs ms))) := by
  have delivered : ∀ f : State → State,
      live s (fun s => deliverProtocol src dst f (s.atMs ms)) = .next (relight s (deliverProtocol src dst f (s.atMs ms))) :=
    fun f => live_powered (fun s => deliverProtocol src dst f (s.atMs ms)) hp
  unfold CarriesProtocol at hi
  simp only [List.mem_cons, List.not_mem_nil, or_false] at hi
  rcases hi with rfl | rfl | rfl <;> exact ⟨_, delivered _⟩

theorem discarded_arrives {s : State} {src dst : Byte} {ms : Nat} {i : Instr} (hp : s.powered = true)
    (hi : CarriesDiscarded src dst ms i) :
    exec i s = .next (relight s (deliverProtocol src dst (fun t => t) (s.atMs ms))) := by
  obtain ⟨payload, ⟨rfl, none⟩ | ⟨rfl, none⟩ | ⟨rfl, none⟩⟩ := hi
  · show execClaimReceived src dst payload ms s = _
    unfold execClaimReceived
    rw [live_powered _ hp, none]
  · show execReleaseReceived src dst payload ms s = _
    unfold execReleaseReceived
    rw [live_powered _ hp, none]
  · show execBeaconReceived src dst payload ms s = _
    unfold execBeaconReceived
    rw [live_powered _ hp, none]

/-! ### Frames that the responder does not take -/

theorem takes_eq_false {s : State} {src dst : Byte} (h : s.sup.address ≠ some dst.toNat ∨ src.toNat ≤ 223) :
    s.takes src dst = false := by
  unfold State.takes consoleAddress
  rcases h with h | h
  · rw [decide_eq_false h, Bool.false_and]
  · rw [decide_eq_false (p := 224 ≤ src.toNat) (by omega), Bool.false_and, Bool.and_false]

theorem servesFrame_eq_false {s : State} {src dst kind : Byte} (h : s.takes src dst = false) :
    s.servesFrame src dst kind = false := by
  unfold State.servesFrame
  rw [h, Bool.and_false]

theorem servesFrame_other {s : State} {src dst kind : Byte} (h1 : kind ≠ 0x10#8) (h2 : kind ≠ 0x12#8) :
    s.servesFrame src dst kind = false := by
  unfold State.servesFrame
  rw [decide_eq_false (not_or.mpr ⟨h1, h2⟩), Bool.false_and]

/-- R174: a frame of a source that is no console is answered by nothing. -/
theorem serve_of_not_console {src dst : Byte} (answer : State → State) (s : State) (h : src.toNat ≤ 223) :
    serve src dst answer s = deliver src dst (fun t => t) s := by
  unfold serve
  refine congrArg (fun f => deliver src dst f s) (funext fun t => if_neg ?_)
  rw [takes_eq_false (.inr h)]
  decide

/-- R144: a frame that R28 discards is as one of another kind, where the source is not this station's own. -/
theorem deliverProtocol_nothing {src dst : Byte} {s : State} (h : s.clashes src = false) :
    deliverProtocol src dst (fun t => t) s = deliver src dst (fun t => t) s := by
  unfold deliverProtocol
  rw [if_neg (by rw [h]; simp)]
  simp only [ite_self]

/-- R131: a frame of a station that reaches the supervisor alone. -/
theorem exec_heard {s : State} {src dst : Byte} {ms : Nat} {i : Instr} (h : s.Hears src dst)
    (hm : s.sup.mode.configured = true) (hs : src.toNat ≤ 222)
    (hi : (∃ kind, CarriesOther src dst kind ms i) ∨ CarriesService src dst ms i ∨
      (s.sup.address ≠ some src.toNat ∧ CarriesDiscarded src dst ms i)) :
    exec i s = .next (relight s (heard (s.atMs ms))) := by
  have alone : deliver src dst (fun t => t) (s.atMs ms) = heard (s.atMs ms) :=
    deliver_heard h (Mode.ne_loading_of_configured hm) hs _ ms
  rcases hi with ⟨kind, hi⟩ | hi | ⟨ha, hi⟩
  · rw [other_arrives h.powered hi (servesFrame_eq_false (takes_eq_false (.inr (by omega)))), alone]
  · obtain ⟨answer, e⟩ := service_arrives h.powered hi
    rw [e, serve_of_not_console _ _ (by omega), alone]
  · have clash : (s.atMs ms).clashes src = false := not_clashes fun _ => ha
    rw [discarded_arrives h.powered hi, deliverProtocol_nothing clash, alone]

/-! ### Frames that reach no block -/

/-- A frame that no block takes leaves the receiver idle (R143). -/
theorem deliver_unheard {src dst : Byte} {f : State → State} {s : State} (hr : s.receives = true)
    (hf : s.addressed src dst = true → s.sup.mode ≠ .loading →
      f (if stationAddress src.toNat = true then stationFrame (receiverIdle s) else receiverIdle s) = receiverIdle s) :
    deliver src dst f s = receiverIdle s := by
  unfold deliver
  rw [if_pos hr]
  split
  · rename_i h
    rw [Bool.and_eq_true, decide_eq_true_iff] at h
    exact hf h.1 h.2
  · rfl

/-- R126: the frame reaches no block in LOADING; `f` is what its kind would ask. -/
theorem deliver_loading {src dst : Byte} (f : State → State) {s : State} (hr : s.receives = true) (hm : s.sup.mode = .loading) :
    deliver src dst f s = receiverIdle s := deliver_unheard hr fun _ h => absurd hm h

theorem deliverProtocol_unheard {src dst : Byte} {f : State → State} {s : State} (hr : s.receives = true)
    (hc : s.clashes src = false)
    (hm : s.sup.mode = .loading ∨ s.sup.mode = .unconfigured ∨ stationAddress src.toNat = false) :
    deliverProtocol src dst f s = receiverIdle s := by
  unfold deliverProtocol
  rw [if_neg (by rw [hc]; simp)]
  refine deliver_unheard hr fun _ h => ?_
  rcases hm with hm | hm | hm
  · exact absurd hm h
  · have same : stationFrame (receiverIdle s) = receiverIdle s := stationFrame_unconfigured (s := receiverIdle s) (by
      show s.sup.mode.configured = false
      rw [hm]
      rfl)
    rw [same, ite_self]
    refine if_neg ?_
    show ¬ (_ && s.sup.mode.configured) = true
    rw [hm]
    simp [Mode.configured]
  · rw [hm]
    rfl

/-- What the row of a frame leaves that reaches no block. -/
def Unheard (i : Instr) (ms : Nat) (s : State) : Prop := exec i s = .next (relight s (receiverIdle (s.atMs ms)))

theorem receives_of {s : State} (hp : s.powered = true) (hh : s.line.held = false) (ms : Nat) : (s.atMs ms).receives = true := by
  show (s.powered && !s.line.held) = true
  rw [hp, hh]
  rfl

theorem unheard_loading {s : State} {src dst : Byte} {ms : Nat} {i : Instr} (hp : s.powered = true) (hh : s.line.held = false)
    (hm : s.sup.mode = .loading) (ha : s.sup.address = none)
    (hi : (∃ kind, CarriesOther src dst kind ms i) ∨ CarriesService src dst ms i ∨
      ∃ payload, CarriesProtocol src dst payload ms i) : Unheard i ms s := by
  have hr := receives_of hp hh ms
  have loading : (s.atMs ms).sup.mode = .loading := hm
  unfold Unheard
  rcases hi with ⟨kind, hi⟩ | hi | ⟨payload, hi⟩
  · rw [other_arrives hp hi (servesFrame_eq_false (takes_eq_false (.inl (by rw [ha]; nofun)))), deliver_loading _ hr loading]
  · obtain ⟨answer, e⟩ := service_arrives hp hi
    rw [e, serve, deliver_loading _ hr loading]
  · obtain ⟨f, e⟩ := protocol_arrives hp hi
    have clash : (s.atMs ms).clashes src = false := not_clashes fun _ => by
      show s.sup.address ≠ _
      rw [ha]
      nofun
    rw [e, deliverProtocol_unheard hr clash (.inl loading)]

theorem unheard_unconfigured {s : State} {src dst : Byte} {ms : Nat} {i : Instr} (h : s.Hears src dst)
    (hm : s.sup.mode = .unconfigured) (hs : src.toNat ≤ 222) (ha : s.sup.address ≠ some src.toNat)
    (hi : (∃ kind, CarriesOther src dst kind ms i) ∨ CarriesService src dst ms i ∨
      ∃ payload, CarriesProtocol src dst payload ms i) : Unheard i ms s := by
  have hr := receives_of h.powered h.free ms
  have same : stationFrame (receiverIdle (s.atMs ms)) = receiverIdle (s.atMs ms) := stationFrame_unconfigured (by
    show s.sup.mode.configured = false
    rw [hm]
    rfl)
  have alone : deliver src dst (fun t => t) (s.atMs ms) = receiverIdle (s.atMs ms) := deliver_unheard hr fun _ _ => by
    rw [same, ite_self]
  unfold Unheard
  rcases hi with ⟨kind, hi⟩ | hi | ⟨payload, hi⟩
  · rw [other_arrives h.powered hi (servesFrame_eq_false (takes_eq_false (.inr (by omega)))), alone]
  · obtain ⟨answer, e⟩ := service_arrives h.powered hi
    rw [e, serve_of_not_console _ _ (by omega), alone]
  · obtain ⟨f, e⟩ := protocol_arrives h.powered hi
    have clash : (s.atMs ms).clashes src = false := not_clashes fun _ => ha
    rw [e, deliverProtocol_unheard hr clash (.inr (.inl hm))]

theorem unheard_console {s : State} {src dst : Byte} {ms : Nat} {i : Instr} (h : s.Hears src dst) (hs : 222 < src.toNat)
    (hi : (∃ kind, CarriesOther src dst kind ms i ∧ kind ≠ 0x10#8 ∧ kind ≠ 0x12#8) ∨
      (∃ payload, CarriesProtocol src dst payload ms i) ∨
      ((s.sup.address ≠ some dst.toNat ∨ src.toNat = 223) ∧
        (CarriesService src dst ms i ∨ ∃ kind, CarriesOther src dst kind ms i))) : Unheard i ms s := by
  have hr := receives_of h.powered h.free ms
  have foreign : stationAddress src.toNat = false := by
    rw [Hears.stationAddress h]
    exact decide_eq_false (by omega)
  have alone : deliver src dst (fun t => t) (s.atMs ms) = receiverIdle (s.atMs ms) := deliver_unheard hr fun _ _ => by
    rw [foreign]
    rfl
  unfold Unheard
  rcases hi with ⟨kind, hi, h1, h2⟩ | ⟨payload, hi⟩ | ⟨untaken, hi⟩
  · rw [other_arrives h.powered hi (servesFrame_other h1 h2), alone]
  · obtain ⟨f, e⟩ := protocol_arrives h.powered hi
    have clash : (s.atMs ms).clashes src = false := not_clashes fun hs' => by omega
    rw [e, deliverProtocol_unheard hr clash (.inr (.inr foreign))]
  · have untaken' : s.sup.address ≠ some dst.toNat ∨ src.toNat ≤ 223 := untaken.imp id fun h => by omega
    rcases hi with hi | ⟨kind, hi⟩
    · obtain ⟨answer, e⟩ := service_arrives h.powered hi
      rw [e, serve, deliver_unheard hr fun _ _ => ?_]
      rw [foreign]
      have : (receiverIdle (s.atMs ms)).takes src dst = false := takes_eq_false untaken'
      exact if_neg (by rw [if_neg (by decide), this]; decide)
    · rw [other_arrives h.powered hi (servesFrame_eq_false (takes_eq_false untaken')), alone]

theorem receiverIdle_at_keeps (s : State) (ms : Nat) : Keeps [.line] (s.atMs ms) (relight s (receiverIdle (s.atMs ms))) :=
  (receiverIdle_keeps (s.atMs ms)).relight

/-! ### Frames that fail (R142 to R144) -/

theorem exec_rxFrameBroken {s : State} {how : RxBreak} {chars : List Byte} (hp : s.powered = true) (hh : s.line.held = false)
    (hf : breakFits how chars = true) :
    exec (.rxFrameBroken how chars) s =
      .next (relight s (if breakCounted how = true then countCrcError (receiverIdle s) else receiverIdle s)) := by
  have hr : s.receives = true := receives_of hp hh s.clock.ms
  show execRxFrameBroken how chars s = _
  unfold execRxFrameBroken
  rw [live_powered _ hp, hr, hf]
  rfl

theorem breakCounted_iff (how : RxBreak) : breakCounted how = true ↔ how = .stopDominant ∨ how = .idleEarly := by
  cases how <;> decide

theorem completeFrame_of {src dst kind n : Byte} {rest : List Byte} (hn : n.toNat ≤ 40) (hl : rest.length = n.toNat + 2) :
    completeFrame (src :: dst :: kind :: n :: rest) = true := by
  have length : frameLength (src :: dst :: kind :: n :: rest) = some (6 + n.toNat) := if_pos (by simp)
  unfold completeFrame
  rw [length]
  simp only [List.length_cons, decide_eq_true_iff]
  omega

theorem exec_rxFrameDiscarded {s : State} {src dst kind n : Byte} {rest : List Byte} (hp : s.powered = true)
    (hh : s.line.held = false) (hn : n.toNat ≤ 40) (hl : rest.length = n.toNat + 2) :
    exec (.rxFrameDiscarded (src :: dst :: kind :: n :: rest)) s =
      .next (relight s (discardFrame (src :: dst :: kind :: n :: rest) s)) := by
  have hr : s.receives = true := receives_of hp hh s.clock.ms
  show execRxFrameDiscarded _ s = _
  unfold execRxFrameDiscarded
  rw [live_powered _ hp, hr, completeFrame_of hn hl]
  rfl

theorem addressed_iff (s : State) (src dst : Byte) :
    s.addressed src dst = true ↔
      (1 ≤ src.toNat ∧ src.toNat ≤ 247) ∧ (dst.toNat = 0 ∨ s.sup.address = some dst.toNat) := by
  simp [State.addressed]

theorem clashes_iff (s : State) (src kind : Byte) :
    (ownRowKind kind && s.clashes src) = true ↔
      1 ≤ src.toNat ∧ src.toNat ≤ 222 ∧ s.sup.address = some src.toNat ∧ (kind = 0x01#8 ∨ kind = 0x02#8 ∨ kind = 0x03#8) := by
  simp only [ownRowKind, State.clashes, stationAddress, Bool.and_eq_true, decide_eq_true_iff]
  tauto

/-- Settles O44. -/
theorem otherFramesAndErrors : Obligations.OtherFramesAndErrors := by
  refine ⟨fun s src dst ms i h hm hs hi => ?_, fun s src dst ms i hp hh hi => ?_, fun s how chars hp hh hf => ?_,
    fun s src dst kind n rest hp hh hn hl => ?_⟩
  · have passes := heard_passes (s.atMs ms)
    exact ⟨_, exec_heard h hm hs hi, (heard_delivered (s := s.atMs ms) hm).relight s, passes.keeps .view (by decide),
      passes.keeps .overflow (by decide), passes.events.2 .peerViewFull (by decide) (by decide),
      heard_events (s := s.atMs ms) hm⟩
  · have unheard : Unheard i ms s := by
      rcases hi with ⟨hm, ha, hi⟩ | ⟨h, hm, hs, ha, hi⟩ | ⟨h, hs, hi⟩
      · exact unheard_loading hp hh hm ha hi
      · exact unheard_unconfigured h hm hs ha hi
      · exact unheard_console h hs hi
    exact ⟨_, unheard, receiverIdle_at_keeps s ms, rfl⟩
  · refine ⟨_, exec_rxFrameBroken hp hh hf, ?_, ?_⟩
    · refine Keeps.relight ?_
      split
      · exact (receiverIdle_keeps s).trans (setLine_keeps _ _)
      · exact receiverIdle_keeps s
    · rw [relight_line]
      simp only [← breakCounted_iff]
      split <;> rfl
  · intro chars known clash failed
    refine ⟨_, exec_rxFrameDiscarded hp hh hn hl, ?_⟩
    have counted := setLine_keeps { (receiverIdle s).line with crcErrors := min 255 (s.line.crcErrors + 1) } (receiverIdle s)
    have clashed := setLine_keeps { (receiverIdle s).line with clashes := min 255 (s.line.clashes + 1) } (receiverIdle s)
    have idle := receiverIdle_keeps s
    have hk : s.addressed src dst = true ↔ known := addressed_iff s src dst
    have hc : (ownRowKind kind && s.clashes src) = true ↔ clash := clashes_iff s src kind
    rw [relight_line]
    by_cases good : crc16Good chars = true
    · by_cases k : known
      · have c : clash := by
          rcases failed with h | h | h
          · rw [good] at h
            cases h
          · exact absurd k h
          · exact h
        have e : discardFrame chars s = countClash (receiverIdle s) := by
          unfold discardFrame
          rw [if_pos good]
          refine if_pos ?_
          show (s.addressed src dst && ownRowKind kind && s.clashes src) = true
          rw [Bool.and_assoc, hk.mpr k, hc.mpr c]
          rfl
        rw [e, if_neg (by rw [good]; decide), if_pos ⟨good, k, c⟩]
        exact ⟨(idle.trans clashed).relight, rfl⟩
      · have na : s.addressed src dst = false := Bool.eq_false_of_not_eq_true (mt hk.mp k)
        have e : discardFrame chars s = receiverIdle s := by
          unfold discardFrame
          rw [if_pos good]
          show (if (s.addressed src dst && ownRowKind kind && s.clashes src) = true then countClash (receiverIdle s)
            else if s.addressed src dst = true then s else receiverIdle s) = _
          rw [na]
          rfl
        rw [e, if_neg (by rw [good]; decide), if_neg fun h => k h.2.1]
        exact ⟨idle.relight, rfl⟩
    · have e : discardFrame chars s = countCrcError (receiverIdle s) := if_neg good
      rw [e, if_pos (Bool.eq_false_of_not_eq_true good), if_neg fun h => good h.1]
      exact ⟨(idle.trans counted).relight, rfl⟩

end Sys2Proof.Machine

namespace Sys2Proof.Machine

/-! ## The end of a test (R80 to R83, R89) -/

/-! ### How an event's cell grows (R168) -/

/-- R168: what occurrences can make of a cell: mask and selection stay, and what is set stays set. -/
structure EventCell.Grows (c d : EventCell) : Prop where
  mask : d.mask = c.mask
  push : d.push = c.push
  status : (d.status || !d.mask) = (c.status || !c.mask)
  raw : c.raw = true → d.raw = true

theorem EventCell.Grows.refl (c : EventCell) : c.Grows c := ⟨rfl, rfl, rfl, id⟩

theorem EventCell.Grows.trans {c d e : EventCell} (h : c.Grows d) (k : d.Grows e) : c.Grows e :=
  ⟨k.mask.trans h.mask, k.push.trans h.push, k.status.trans h.status, fun r => k.raw (h.raw r)⟩

/-- The cell of every event but REPORT_OVERRUN has only grown. -/
def EventsGrow (s t : State) : Prop := ∀ e : Event, e ≠ .reportOverrun → (s.events.cell e.number).Grows (t.events.cell e.number)

theorem EventsGrow.refl (s : State) : EventsGrow s s := fun _ _ => .refl _

theorem EventsGrow.trans {s t u : State} (h : EventsGrow s t) (k : EventsGrow t u) : EventsGrow s u := fun e he =>
  (h e he).trans (k e he)

theorem EventsGrow.of_kept {s t : State} (h : EventsKept [] s t) : EventsGrow s t := fun e he => by
  rw [h.2 e nofun he]
  exact .refl _

theorem EventsGrow.foldl {α : Type} {f : State → α → State} (h : ∀ s x, EventsGrow s (f s x)) (l : List α) (s : State) :
    EventsGrow s (l.foldl f s) := by
  induction l generalizing s with
  | nil => exact .refl s
  | cons x xs ih => exact (h s x).trans (ih _)

theorem raise_grow (e : Event) (d : Detail) (s : State) : EventsGrow s (raise e d s) := fun f hf => by
  show (s.events.cell f.number).Grows ((s.events.occur e.number d s.calendar.minutes).cell f.number)
  rw [EventUnit.cell_occur _ _ _ _ _ (mt Event.number_inj.mp hf), EventUnit.record, EventUnit.cell_modCell]
  split
  · exact ⟨rfl, rfl, by cases (s.events.cell f.number).status <;> cases (s.events.cell f.number).mask <;> rfl, fun _ => rfl⟩
  · exact .refl _

theorem Occurs.after_growth {e : Event} {d : Detail} {s u v : State} (h : Occurs e d u v) (he : e ≠ .reportOverrun)
    (g : EventsGrow s u) : Occurs e d s v := by
  obtain ⟨mask, push, status, -⟩ := g e he
  rw [mask] at status
  unfold Occurs at h ⊢
  simp only [h, mask, push, status]

theorem Occurs.of_cell {e : Event} {d : Detail} {s u v : State} (h : Occurs e d s u)
    (hv : v.events.cell e.number = u.events.cell e.number) : Occurs e d s v := hv.trans h

/-! ### One luminaire at the end of its group's test -/

/-- R82: a member under test is ABORTED. -/
def Lum.aborted (now : Nat) (owed : Bool) (l : Lum) : Lum :=
  { l with
    test := if l.test.live = true then .aborted else l.test
    achieved :=
      if l.test = .discharging then (now - l.ownStart.getD now) / 60000 else if l.test = .pendingStart then 0 else l.achieved
    endOwed := l.endOwed || (l.test.live && owed) }

def Lum.unrequested (l : Lum) : Lum := { l with request := none }

/-- R89: the record of a member that has a result. -/
def Lum.recorded (minute : Nat) (l : Lum) : Lum :=
  match l.test.result with
  | some r => l.write minute r
  | none => l

theorem Lum.aborted_aborted (now : Nat) (owed : Bool) (l : Lum) : (l.aborted now owed).aborted now owed = l.aborted now owed := by
  unfold Lum.aborted
  cases l.test <;> simp [TestState.live]

theorem Lum.recorded_recorded (minute : Nat) (l : Lum) : (l.recorded minute).recorded minute = l.recorded minute := by
  unfold Lum.recorded
  cases h : l.test.result with
  | none => simp only [h]
  | some r => simp only [Lum.write, h, Lum.endVolts, Lum.endFaults]

theorem State.lum_modLum_same (s : State) (n : Nat) (f : Lum → Lum) (h : f Lum.empty = Lum.empty) :
    (s.modLum n f).lum n = f (s.lum n) := by
  by_cases hn : n < s.lums.length
  · exact s.lum_modLum n f hn
  · rw [State.lum_outside _ n (by simpa using Nat.le_of_not_lt hn), s.lum_outside n (Nat.le_of_not_lt hn), h]

theorem Lum.aborted_of_not_live (now : Nat) (owed : Bool) {l : Lum} (h : l.test.live = false) : l.aborted now owed = l := by
  obtain ⟨test⟩ := l
  cases test <;> simp_all [Lum.aborted, TestState.live]

theorem abortMember_lum (owed : Bool) (s : State) (n : Nat) : (abortMember owed s n).lum n = (s.lum n).aborted s.now owed := by
  have inside : (s.lum n).test ≠ .untested → n < s.lums.length := fun h =>
    Nat.lt_of_not_le fun hl => h (by rw [s.lum_outside n hl]; rfl)
  unfold abortMember
  cases h : (s.lum n).test with
  | pendingStart => simp [Lum.aborted, h, s.lum_modLum n _ (inside (by rw [h]; decide)), TestState.live]
  | discharging => simp [Lum.aborted, h, s.lum_modLum n _ (inside (by rw [h]; decide)), TestState.live, minutesBetween]
  | _ => exact (Lum.aborted_of_not_live _ _ (by rw [h]; rfl)).symm

theorem abortMember_lum_ne (owed : Bool) (s : State) {n m : Nat} (h : m ≠ n) : (abortMember owed s n).lum m = s.lum m := by
  unfold abortMember
  split
  · exact s.lum_modLum_ne n m _ h
  · exact s.lum_modLum_ne n m _ h
  · rfl

theorem clearRequest_lum (s : State) (n : Nat) : (clearRequest s n).lum n = (s.lum n).unrequested :=
  s.lum_modLum_same n Lum.unrequested rfl

theorem offerLine_lum (l : HistLine) (s : State) (m : Nat) : (offerLine l s).lum m = s.lum m := by
  unfold State.lum
  rw [show (offerLine l s).lums = s.lums from offerLine_keeps l s .lums (by decide)]

theorem writeMember_lum (g minute : Nat) (s : State) (n : Nat) : (writeMember g minute s n).lum n = (s.lum n).recorded minute := by
  unfold writeMember Lum.recorded
  cases h : (s.lum n).test.result with
  | none => rfl
  | some r =>
    have inside : n < s.lums.length := Nat.lt_of_not_le fun hl => by
      rw [s.lum_outside n hl] at h
      cases h
    simp only
    rw [offerLine_lum, s.lum_modLum n _ inside]

theorem writeMember_lum_ne (g minute : Nat) (s : State) {n m : Nat} (h : m ≠ n) : (writeMember g minute s n).lum m = s.lum m := by
  unfold writeMember
  split
  · rw [offerLine_lum, s.lum_modLum_ne n m _ h]
  · rfl

/-- A step over the members that treats each luminaire alone, and twice as once. -/
theorem foldl_lum {step : State → Nat → State} {f : Lum → Lum} {P : State → Prop} (m : Nat) (hP : ∀ s n, P s → P (step s n))
    (same : ∀ s, P s → (step s m).lum m = f (s.lum m)) (other : ∀ s n, m ≠ n → (step s n).lum m = s.lum m)
    (twice : ∀ l, f (f l) = f l) (members : List Nat) (s : State) (hs : P s) :
    (members.foldl step s).lum m = if m ∈ members then f (s.lum m) else s.lum m := by
  induction members generalizing s with
  | nil => rfl
  | cons n ns ih =>
    rw [List.foldl_cons, ih _ (hP s n hs)]
    by_cases e : m = n
    · subst e
      rw [same s hs, twice, ite_self, if_pos List.mem_cons_self]
    · rw [other s n e]
      simp [e]

theorem abortMembers_lum (owed : Bool) (members : List Nat) (s : State) (m : Nat) :
    (members.foldl (abortMember owed) s).lum m = if m ∈ members then (s.lum m).aborted s.now owed else s.lum m := by
  refine foldl_lum (P := fun t => t.now = s.now) m (fun t n h => ?_) (fun t h => ?_) (fun t n h => abortMember_lum_ne owed t h)
    (Lum.aborted_aborted _ _) members s rfl
  · rw [← h]
    unfold State.now
    rw [show (abortMember owed t n).clock = t.clock from abortMember_keeps owed n t .clock (by decide)]
  · rw [abortMember_lum, h]

theorem clearRequests_lum (members : List Nat) (s : State) (m : Nat) :
    (members.foldl clearRequest s).lum m = if m ∈ members then (s.lum m).unrequested else s.lum m :=
  foldl_lum (P := fun _ => True) m (fun _ _ h => h) (fun t _ => clearRequest_lum t m) (fun t _ h => t.lum_modLum_ne _ _ _ h)
    (fun _ => rfl) members s trivial

theorem writeMembers_lum (g minute : Nat) (members : List Nat) (s : State) (m : Nat) :
    (members.foldl (writeMember g minute) s).lum m = if m ∈ members then (s.lum m).recorded minute else s.lum m :=
  foldl_lum (P := fun _ => True) m (fun _ _ h => h) (fun t _ => writeMember_lum g minute t m)
    (fun t _ h => writeMember_lum_ne g minute t h) (Lum.recorded_recorded minute) members s trivial

/-! ### The history lines (R161, R164) -/

theorem HistoryOffered.nil {s t : State} (h : t.mem = s.mem) : HistoryOffered [] s t where
  memory := by
    rw [h]
    obtain ⟨nvm, appender, cache, fillPending, txn, turn⟩ := s.mem
    simp only [List.take_nil, List.append_nil, List.all_nil, List.filter_true, List.any_nil, Bool.or_false]
    congr 1
    cases txn with
    | none => rfl
    | some x => cases x <;> rfl
  lost _ h := absurd rfl h

theorem HistoryOffered.append {a b : List HistLine} {s t u : State} (h : HistoryOffered a s t) (k : HistoryOffered b t u)
    (hl : t.events.cells.length = s.events.cells.length) (grow : EventsGrow t u) : HistoryOffered (a ++ b) s u where
  memory := by
    have hm := h.memory
    have km := k.memory
    simp only at hm km ⊢
    have taken : (a ++ b).take (256 - s.mem.appender.length) =
        a.take (256 - s.mem.appender.length) ++ b.take (256 - t.mem.appender.length) := by
      rw [hm, List.take_append, List.length_append, List.length_take]
      congr 2
      omega
    rw [km, taken]
    generalize b.take (256 - t.mem.appender.length) = y
    rw [hm]
    generalize a.take (256 - s.mem.appender.length) = x
    simp only [List.append_assoc, List.filter_filter, List.all_append, Option.map_map, List.any_append]
    congr 1
    · exact List.filter_congr fun c _ => Bool.and_comm _ _
    · refine congrArg (fun f => Option.map f s.mem.txn) (funext fun m => ?_)
      cases m <;> simp [Bool.or_assoc]
  lost hc ne exceeds := by
    by_cases early : a ≠ [] ∧ 256 < s.mem.appender.length + a.length
    · exact (grow .recordCrcError (by decide)).raw (h.lost hc early.1 early.2)
    · have fits : s.mem.appender.length + a.length ≤ 256 ∨ a = [] := by
        by_cases ha : a = []
        · exact .inr ha
        · exact .inl (Nat.le_of_not_lt fun hlt => early ⟨ha, hlt⟩)
      have length : t.mem.appender.length = s.mem.appender.length + a.length := by
        rw [h.memory, List.length_append, List.length_take]
        rcases fits with hf | rfl
        · omega
        · rw [List.length_nil, Nat.min_zero]
      refine k.lost (hl.trans hc) (fun hb => ?_) (by rw [length]; rw [List.length_append] at exceeds; omega)
      subst hb
      rw [List.append_nil] at ne exceeds
      exact early ⟨ne, exceeds⟩

theorem offerLine_offered (l : HistLine) (s : State) : HistoryOffered [l] s (offerLine l s) := by
  by_cases h : s.mem.appender.length < 256
  · have e : offerLine l s = s.setMem
        { s.mem with
          appender := s.mem.appender ++ [l]
          cache := s.mem.cache.filter (fun c => decide (c.lum ≠ l.lum))
          txn := s.mem.txn.map (MemTxn.arrived l.lum) } := if_pos h
    have taken : [l].take (256 - s.mem.appender.length) = [l] := List.take_of_length_le (by simp; omega)
    rw [e]
    refine ⟨?_, fun _ _ exceeds => ?_⟩
    · simp only [taken, List.all_cons, List.all_nil, Bool.and_true, List.any_cons, List.any_nil, Bool.or_false]
      show RecMem.mk _ _ _ _ _ _ = _
      congr 1
      · exact List.filter_congr fun c _ => decide_eq_decide.mpr ne_comm
      · refine congrArg (fun f => Option.map f s.mem.txn) (funext fun m => ?_)
        cases m with
        | fill k arrived => exact congrArg (MemTxn.fill k) (congrArg (arrived || ·) (decide_eq_decide.mpr eq_comm))
        | _ => rfl
    · simp at exceeds
      omega
  · have e : offerLine l s = raise .recordCrcError (lostDetail l.lum) s := if_neg h
    rw [e]
    have full : 256 - s.mem.appender.length = 0 := by omega
    have none := (HistoryOffered.nil (s := s) (t := raise .recordCrcError (lostDetail l.lum) s) rfl).memory
    refine ⟨?_, fun hc _ _ => ?_⟩
    · simp only [full, List.take_zero, List.take_nil] at none ⊢
      exact none
    · rw [raise_occurs _ _ s (by rw [hc]; decide) (by decide)]

theorem offerLine_grow (l : HistLine) (s : State) : EventsGrow s (offerLine l s) := by
  unfold offerLine
  split
  · exact .of_kept (.of_events rfl)
  · exact raise_grow _ _ s

theorem writeMember_grow (g minute : Nat) (s : State) (n : Nat) : EventsGrow s (writeMember g minute s n) := by
  unfold writeMember
  split
  · exact EventsGrow.trans (t := s.modLum n _) (.of_kept (.of_events rfl)) (offerLine_grow _ _)
  · exact .refl s

/-- R89: the line of one member. -/
def lineOf (g minute n : Nat) (l : Lum) : Option HistLine :=
  l.test.result.map fun r =>
    { lum := n, time := minute, group := g, result := r, achieved := l.achieved, volts := l.endVolts }

theorem lineOf_recorded (g minute n : Nat) (l : Lum) : lineOf g minute n (l.recorded minute) = lineOf g minute n l := by
  unfold lineOf Lum.recorded
  cases h : l.test.result with
  | none => rw [h]
  | some r => simp only [Lum.write, h, Lum.endVolts]

theorem offerLine_length (l : HistLine) (s : State) : (offerLine l s).events.cells.length = s.events.cells.length := by
  unfold offerLine
  split
  · rfl
  · exact raise_cells_length _ _ s

theorem writeMember_length (g minute : Nat) (s : State) (n : Nat) :
    (writeMember g minute s n).events.cells.length = s.events.cells.length := by
  unfold writeMember
  split
  · exact offerLine_length _ _
  · rfl

theorem writeMember_offered (g minute : Nat) (s : State) (n : Nat) :
    HistoryOffered (lineOf g minute n (s.lum n)).toList s (writeMember g minute s n) := by
  unfold writeMember lineOf
  cases h : (s.lum n).test.result with
  | none => exact .nil rfl
  | some r =>
    have offered := offerLine_offered
      { lum := n, time := minute, group := g, result := r, achieved := (s.lum n).achieved, volts := (s.lum n).endVolts }
      (s.modLum n (fun l => l.write minute r))
    exact ⟨offered.memory, offered.lost⟩

/-- R89, R161: the lines of the members, in the order of the member list. -/
theorem writeMembers_offered (g minute : Nat) (members : List Nat) (s : State) :
    HistoryOffered (members.filterMap fun n => lineOf g minute n (s.lum n)) s (members.foldl (writeMember g minute) s) := by
  induction members generalizing s with
  | nil => exact .nil rfl
  | cons n ns ih =>
    have rest : (ns.filterMap fun m => lineOf g minute m ((writeMember g minute s n).lum m)) =
        ns.filterMap fun m => lineOf g minute m (s.lum m) := by
      refine List.filterMap_congr fun m _ => ?_
      by_cases e : m = n
      · rw [e, writeMember_lum, lineOf_recorded]
      · rw [writeMember_lum_ne g minute s e]
    have both := (writeMember_offered g minute s n).append (ih (writeMember g minute s n)) (writeMember_length g minute s n)
      (EventsGrow.foldl (writeMember_grow g minute) ns _)
    rw [rest] at both
    rw [List.foldl_cons, List.filterMap_cons]
    cases h : lineOf g minute n (s.lum n) with
    | none => simpa [h] using both
    | some l => simpa [h] using both

/-! ### What the end of a test passes over -/

/-- The parts that the end of a test can touch. -/
def testParts : List Part := [.groups, .lums, .mem, .line, .events, .service]

theorem offerLine_passes (l : HistLine) (s : State) : Passes testParts [.recordCrcError] (fun _ => False) s (offerLine l s) := by
  unfold offerLine
  split
  · exact Passes.of_keeps ((setMem_keeps _ s).mono (by decide)) rfl rfl rfl
  · exact raise_passes _ _ s (by decide) (by decide)

theorem writeMember_passes (g minute : Nat) (s : State) (n : Nat) :
    Passes testParts [.recordCrcError] (fun _ => False) s (writeMember g minute s n) := by
  unfold writeMember
  split
  · rename_i r _
    have record : Passes testParts [.recordCrcError] (fun _ => False) s (s.modLum n (fun l => l.write minute r)) :=
      Passes.of_keeps ((modLum_keeps n _ s).mono (by decide)) rfl rfl rfl
    exact record.trans (offerLine_passes _ _)
  · exact Passes.refl _ _ _ s

theorem abortMember_passes (owed : Bool) (s : State) (n : Nat) :
    Passes testParts [.recordCrcError] (fun _ => False) s (abortMember owed s n) := by
  have keeps := abortMember_keeps owed n s
  exact Passes.of_keeps (keeps.mono (by decide)) (keeps .line (by decide)) (keeps .service (by decide)) (keeps .events (by decide))

theorem clearRequest_passes (s : State) (n : Nat) : Passes testParts [.recordCrcError] (fun _ => False) s (clearRequest s n) :=
  Passes.of_keeps ((clearRequest_keeps n s).mono (by decide)) rfl rfl rfl

theorem queueClaim_restarts (g : Nat) (s : State) : (queueClaim g s).line.restarts ≤ s.line.restarts := by
  unfold queueClaim
  split
  · exact offer_restarts rfl
  · exact Nat.le_refl _

/-- R146: a CLAIM of group `g` takes the place of no frame but a CLAIM of the same group. -/
theorem queueClaim_passes {es : List Event} (g : Nat) (s : State) : Passes testParts es (· = g) s (queueClaim g s) where
  keeps := (queueClaim_keeps g s).mono (by decide)
  service := queueClaim_noted g s
  restarts := queueClaim_restarts g s
  events := (queueClaim_eventsKept g s).mono nofun
  length := by
    unfold queueClaim
    split
    · exact offer_cells_length _ s
    · rfl
  claims h b hb ne hw := by
    unfold queueClaim
    split
    · exact offer_waits_other rfl rfl (decide_eq_false (Ne.symm ne)) hw
    · exact hw
  releases h hw := by
    unfold queueClaim
    split
    · exact offer_waits_other rfl rfl rfl hw
    · exact hw

theorem modGroup_passes {es : List Event} (g : Nat) (f : Group → Group) (s : State) :
    Passes testParts es (· = g) s (s.modGroup g f) :=
  Passes.of_keeps ((modGroup_keeps g f s).mono (by decide)) rfl rfl rfl

theorem claimRecovering_passes (g : Nat) (s : State) : Passes testParts [.recordCrcError] (· = g) s (claimRecovering g s) := by
  unfold claimRecovering
  exact ((modGroup_passes g _ s).trans (queueClaim_passes g _)).trans (modGroup_passes g _ _)

theorem queueClaim_grow (g : Nat) (s : State) : EventsGrow s (queueClaim g s) := .of_kept (queueClaim_eventsKept g s)

theorem modGroup_grow (g : Nat) (f : Group → Group) (s : State) : EventsGrow s (s.modGroup g f) := .of_kept (.of_events rfl)

theorem claimRecovering_grow (g : Nat) (s : State) : EventsGrow s (claimRecovering g s) := by
  unfold claimRecovering
  exact ((modGroup_grow g _ s).trans (queueClaim_grow g _)).trans (modGroup_grow g _ _)

/-- R80 to R82: the end of a test raises its event last. -/
theorem finishTest_raises (g : Nat) (r : GResult) (k : Nat) (e : Event) (s : State) :
    ∃ t, finishTest g r k e s = raise e (groupDetail g) t ∧ Passes testParts [.recordCrcError] (· = g) s t ∧ EventsGrow s t := by
  let members := (s.group g).defn.members
  let minute := (s.group g).startMinute
  have cleared : Passes testParts [.recordCrcError] (fun _ => False) s (members.foldl clearRequest s) :=
    Passes.foldl members (fun t n _ => clearRequest_passes t n) s
  have written : ∀ t, Passes testParts [.recordCrcError] (fun _ => False) t (members.foldl (writeMember g minute) t) := fun t =>
    Passes.foldl members (fun t n _ => writeMember_passes g _ t n) t
  have passes := (cleared.trans (written _)).mono (more := (· = g)) (fun _ h => h) (fun _ h => h) fun _ h => h.elim
  have clearedGrow : EventsGrow s (members.foldl clearRequest s) :=
    EventsGrow.foldl (f := clearRequest) (fun _ _ => .of_kept (.of_events rfl)) members s
  have grow := clearedGrow.trans (EventsGrow.foldl (writeMember_grow g minute) members _)
  exact ⟨_, rfl, (passes.trans (modGroup_passes g (fun gr => gr.finish r k) _)).trans (claimRecovering_passes g _),
    (grow.trans (modGroup_grow g (fun gr => gr.finish r k) _)).trans (claimRecovering_grow g _)⟩

theorem finishTest_passes (g : Nat) (r : GResult) (k : Nat) (e : Event) (s : State) :
    Passes testParts [e, .recordCrcError] (· = g) s (finishTest g r k e s) := by
  obtain ⟨t, eq, passes, -⟩ := finishTest_raises g r k e s
  rw [eq]
  exact (passes.mono (fun _ h => h) (by simp) fun _ h => h).trans (raise_passes _ _ _ (by decide) (by simp))

theorem finishTest_grow (g : Nat) (r : GResult) (k : Nat) (e : Event) (s : State) : EventsGrow s (finishTest g r k e s) := by
  obtain ⟨t, eq, -, grow⟩ := finishTest_raises g r k e s
  rw [eq]
  exact grow.trans (raise_grow e (groupDetail g) t)

theorem finishTest_occurs (g : Nat) (r : GResult) (k : Nat) {e : Event} {s : State} (h : s.events.cells.length = 26)
    (he : e ≠ .reportOverrun) : Occurs e (groupDetail g) s (finishTest g r k e s) := by
  obtain ⟨t, eq, passes, grow⟩ := finishTest_raises g r k e s
  rw [eq]
  exact (raise_occurs e _ t (by rw [passes.length, h]; exact e.number_lt) he).after_growth he grow

theorem endTest_passes (g : Nat) (r : GResult) (owed : Bool) (s : State) :
    Passes testParts [.testAborted, .recordCrcError] (fun h => h = g ∧ (s.group g).state = .testing) s (endTest g r owed s) := by
  unfold endTest
  simp only
  split
  · rename_i ht
    have aborted : Passes testParts [.recordCrcError] (fun _ => False) s ((s.group g).defn.members.foldl (abortMember owed) s) :=
      Passes.foldl _ (fun t n _ => abortMember_passes owed t n) s
    exact (aborted.mono (fun _ h => h) (by simp) fun _ h => h.elim).trans
      ((finishTest_passes g r _ .testAborted _).mono (fun _ h => h) (fun _ h => h) fun _ h => ⟨h, ht⟩)
  · exact Passes.refl _ _ _ s

theorem endTest_grow (g : Nat) (r : GResult) (owed : Bool) (s : State) : EventsGrow s (endTest g r owed s) := by
  unfold endTest
  simp only
  split
  · refine EventsGrow.trans (EventsGrow.foldl (fun t n => ?_) _ s) (finishTest_grow _ _ _ _ _)
    exact .of_kept (.of_events (abortMember_keeps owed n t .events (by decide)))
  · exact .refl s

/-! ### The early end of a test, whole (R82) -/

theorem abortMembers_passes (owed : Bool) (members : List Nat) (s : State) :
    Passes testParts [.recordCrcError] (fun _ => False) s (members.foldl (abortMember owed) s) :=
  Passes.foldl members (fun t n _ => abortMember_passes owed t n) s

theorem abortMembers_keeps (owed : Bool) (members : List Nat) (s : State) : Keeps [.lums] s (members.foldl (abortMember owed) s) :=
  Keeps.foldl (fun t n => abortMember_keeps owed n t) members s

/-- R82: the end of the test of a TESTING group is the end of a test, after its members under test have been aborted. -/
theorem endTest_testing {g : Nat} {s : State} (r : GResult) (owed : Bool) (h : (s.group g).state = .testing) :
    endTest g r owed s =
      finishTest g r (earlyRecharge (s.group g).defn.rechargeHours (s.group g).defn.minutes (s.elapsed (s.group g))) .testAborted
        ((s.group g).defn.members.foldl (abortMember owed) s) := if_pos h

theorem endTest_occurs {g : Nat} {s : State} (r : GResult) (owed : Bool) (h : (s.group g).state = .testing)
    (hl : s.events.cells.length = 26) : Occurs .testAborted (groupDetail g) s (endTest g r owed s) := by
  rw [endTest_testing r owed h]
  have passes := abortMembers_passes owed (s.group g).defn.members s
  refine (finishTest_occurs g r _ (passes.length.trans hl) (by decide)).after_growth (by decide) (.of_kept (.of_events ?_))
  exact abortMembers_keeps owed _ s .events (by decide)

/-- R80 to R82, R89: what the end of a test does to a member. -/
theorem finishTest_lum (g : Nat) (r : GResult) (k : Nat) (e : Event) (s : State) (m : Nat) :
    (finishTest g r k e s).lum m =
      if m ∈ (s.group g).defn.members then (s.lum m).unrequested.recorded (s.group g).startMinute else s.lum m := by
  have last : ∀ t : State, (raise e (groupDetail g) (claimRecovering g (t.modGroup g (fun gr => gr.finish r k)))).lum m = t.lum m :=
    fun t => by
      have h := claimRecovering_keeps g (t.modGroup g (fun gr => gr.finish r k)) .lums (by decide)
      exact congrArg (fun l : List Lum => l.getD m Lum.empty) h
  unfold finishTest
  simp only
  rw [last, writeMembers_lum, clearRequests_lum]
  split <;> rfl

/-- R82, R89: a member at the early end of its group's test. -/
def Lum.ended (now : Nat) (owed : Bool) (minute : Nat) (l : Lum) : Lum := ((l.aborted now owed).unrequested).recorded minute

theorem endTest_lum {g : Nat} {s : State} (r : GResult) (owed : Bool) (h : (s.group g).state = .testing) (m : Nat) :
    (endTest g r owed s).lum m =
      if m ∈ (s.group g).defn.members then (s.lum m).ended s.now owed (s.group g).startMinute else s.lum m := by
  have groups := State.group_of_groups (abortMembers_keeps owed (s.group g).defn.members s .groups (by decide)) g
  rw [endTest_testing r owed h, finishTest_lum, groups, abortMembers_lum]
  split <;> rfl

theorem Group.startMinute_eq (gr : Group) : gr.startMinute = (gr.testStart.map TestStart.minute).getD 0 := by
  unfold Group.startMinute
  cases gr.testStart <;> rfl

theorem linesOf_eq (g : Nat) (s t : State) :
    linesOf g s t = (s.group g).defn.members.filterMap fun n => lineOf g (s.group g).startMinute n (t.lum n) := by
  unfold linesOf lineOf Lum.endVolts
  rw [Group.startMinute_eq]

/-- R89: the end of a test offers the lines of its members, as they are then. -/
theorem finishTest_offered (g : Nat) (r : GResult) (k : Nat) (e : Event) (s : State) :
    HistoryOffered (linesOf g s (finishTest g r k e s)) s (finishTest g r k e s) := by
  let members := (s.group g).defn.members
  let minute := (s.group g).startMinute
  let u := members.foldl clearRequest s
  let v := members.foldl (writeMember g minute) u
  have cleared : Keeps [.lums] s u := Keeps.foldl (fun t n => clearRequest_keeps n t) members s
  have lines : linesOf g s (finishTest g r k e s) = members.filterMap fun n => lineOf g minute n (u.lum n) := by
    rw [linesOf_eq]
    refine List.filterMap_congr fun n hn => ?_
    rw [finishTest_lum, if_pos hn, lineOf_recorded, show u.lum n = _ from clearRequests_lum members s n, if_pos hn]
  have written := (HistoryOffered.nil (cleared .mem (by decide))).append (writeMembers_offered g minute members u)
    (congrArg (fun x : EventUnit => x.cells.length) (cleared .events (by decide)))
    (EventsGrow.foldl (writeMember_grow g minute) members u)
  have tail : EventsGrow v (finishTest g r k e s) :=
    ((modGroup_grow g (fun gr => gr.finish r k) v).trans (claimRecovering_grow g _)).trans (raise_grow e (groupDetail g) _)
  have vlength : v.events.cells.length = s.events.cells.length :=
    (Passes.foldl members (fun t n _ => writeMember_passes g minute t n) u).length.trans
      (congrArg (fun x : EventUnit => x.cells.length) (cleared .events (by decide)))
  have mem : (finishTest g r k e s).mem = v.mem := claimRecovering_keeps g _ .mem (by decide)
  have whole := written.append (HistoryOffered.nil mem) vlength tail
  rw [lines]
  simpa using whole

theorem endTest_offered {g : Nat} {s : State} (r : GResult) (owed : Bool) (h : (s.group g).state = .testing) :
    HistoryOffered (linesOf g s (endTest g r owed s)) s (endTest g r owed s) := by
  have keeps := abortMembers_keeps owed (s.group g).defn.members s
  rw [endTest_testing r owed h]
  let u := (s.group g).defn.members.foldl (abortMember owed) s
  let k := earlyRecharge (s.group g).defn.rechargeHours (s.group g).defn.minutes (s.elapsed (s.group g))
  have groups := State.group_of_groups (show u.groups = s.groups from keeps .groups (by decide)) g
  have offered := (HistoryOffered.nil (keeps .mem (by decide))).append (finishTest_offered g r k .testAborted u)
    (congrArg (fun x : EventUnit => x.cells.length) (keeps .events (by decide))) (finishTest_grow g r k .testAborted u)
  rw [List.nil_append, linesOf_eq, groups, ← linesOf_eq] at offered
  exact offered

end Sys2Proof.Machine

namespace Sys2Proof.Machine

/-! ## The judgement of a report (R35, R36, R46, R47) -/

/-- R36: what is judged withdraws own group `g`, if it conflicts with it. -/
def State.Yielding (s : State) (j : Judged) (g : Nat) : Prop :=
  (s.group g).state = .proposed ∧ (j.urgency = none ∨ j.phase ≠ .proposed ∨ s.Outranked j g)

/-- R46: what is judged ends the test of own group `g`, if it conflicts with it. -/
def State.Stopping (s : State) (j : Judged) (g : Nat) : Prop :=
  (s.group g).state = .testing ∧ j.urgency ≠ none ∧
    ((j.phase = .testing ∧ s.Outranked j g) ∨
      (j.phase = .recovering ∧ ¬ (j.previous = some .testing ∧ ¬ s.Outranked j g)))

/-- R46, R47: what is judged is late for own group `g`, if it conflicts with it. -/
def State.Lating (s : State) (j : Judged) (g : Nat) : Prop :=
  (s.group g).state.past = true ∧ j.urgency ≠ none ∧ j.phase ≠ .proposed

theorem State.Outranked.congr {s t : State} {j : Judged} {g : Nat} (hg : t.group g = s.group g) (hf : t.figures = s.figures) :
    t.Outranked j g ↔ s.Outranked j g := by
  unfold State.Outranked
  rw [hg, hf]

theorem State.Yielding.congr {s t : State} {j : Judged} {g : Nat} (hg : t.group g = s.group g) (hf : t.figures = s.figures) :
    t.Yielding j g ↔ s.Yielding j g := by
  unfold State.Yielding
  rw [State.Outranked.congr hg hf, hg]

theorem State.Stopping.congr {s t : State} {j : Judged} {g : Nat} (hg : t.group g = s.group g) (hf : t.figures = s.figures) :
    t.Stopping j g ↔ s.Stopping j g := by
  unfold State.Stopping
  rw [State.Outranked.congr hg hf, hg]

theorem State.Stopping.lating {s : State} {j : Judged} {g : Nat} (h : s.Stopping j g) : s.Lating j g := by
  obtain ⟨ht, hu, hp⟩ := h
  exact ⟨by rw [ht]; rfl, hu, by rcases hp with ⟨hp, -⟩ | ⟨hp, -⟩ <;> rw [hp] <;> decide⟩

theorem State.outranks_iff (s : State) (j : Judged) (g : Nat) : s.outranks j g = true ↔ j.urgency = none ∨ s.Outranked j g := by
  unfold State.outranks State.Outranked State.ownAddress
  cases j.urgency <;> simp

/-! ### The judgement of one own group -/

/-- R35, step 1: what the judgement of own group `g` does to state `s`. -/
inductive JudgedTo (j : Judged) (g : Nat) (s : State) : State → Prop
  | yields : s.Yielding j g → JudgedTo j g s (withdrawQuiet g (some .withdrawn) s)
  | stops : s.Stopping j g → JudgedTo j g s (raise .conflictLate (groupDetail g) (endTest g .abortedConflict true s))
  | late : ¬ s.Stopping j g → s.Lating j g → JudgedTo j g s (raise .conflictLate (groupDetail g) s)
  | spared : ¬ s.Yielding j g → ¬ s.Lating j g → JudgedTo j g s s

theorem endsTest_iff {s : State} {j : Judged} {g : Nat} (ht : (s.group g).state = .testing) (hu : j.urgency ≠ none) :
    s.endsTest j g = true ↔ s.Stopping j g := by
  have outranks : s.outranks j g = true ↔ s.Outranked j g := by
    rw [s.outranks_iff]
    exact or_iff_right hu
  unfold State.endsTest State.Stopping
  cases h : j.phase with
  | proposed => simp
  | testing => simp [ht, hu, outranks]
  | recovering =>
    simp only [Bool.not_eq_true', Bool.eq_false_iff, ne_eq, Bool.and_eq_true, decide_eq_true_iff, Bool.eq_false_iff,
      outranks]
    simp [ht, hu]

theorem judgeGroup_judgedTo (j : Judged) (g : Nat) (s : State) : JudgedTo j g s (judgeGroup j s g) := by
  have judging : ∀ st, (s.group g).state = st → st ≠ .testing → ¬ s.Stopping j g := fun st e h c => h (e ▸ c.1)
  have spared : ∀ st, (s.group g).state = st → st.past = false → ¬ s.Lating j g := fun st e h c => by
    rw [State.Lating, e, h] at c
    exact nomatch c.1
  unfold judgeGroup
  cases e : (s.group g).state with
  | proposed =>
    simp only
    unfold judgeProposed
    split
    · rename_i c
      rw [s.outranks_iff] at c
      exact .yields ⟨e, by tauto⟩
    · rename_i c
      rw [s.outranks_iff] at c
      exact .spared (fun y => c (by have := y.2; tauto)) (spared _ e rfl)
  | testing =>
    simp only
    unfold judgeTesting
    split
    · rename_i c
      exact .spared (fun y => by rw [State.Yielding, e] at y; exact nomatch y.1) (fun l => c.elim l.2.1 l.2.2)
    · rename_i c
      obtain ⟨hu, hp⟩ := not_or.mp c
      split
      · rename_i ends
        exact .stops ((endsTest_iff e hu).mp ends)
      · rename_i ends
        exact .late (mt (endsTest_iff e hu).mpr ends) ⟨by rw [e]; rfl, hu, hp⟩
  | recovering =>
    simp only
    unfold judgeRecovering
    split
    · rename_i c
      exact .spared (fun y => by rw [State.Yielding, e] at y; exact nomatch y.1) (fun l => c.elim l.2.1 l.2.2)
    · rename_i c
      obtain ⟨hu, hp⟩ := not_or.mp c
      exact .late (judging _ e (by decide)) ⟨by rw [e]; rfl, hu, hp⟩
  | _ => exact .spared (fun y => by rw [State.Yielding, e] at y; exact nomatch y.1) (spared _ e rfl)

theorem State.Stopping.not_yielding {s : State} {j : Judged} {g : Nat} (h : s.Stopping j g) : ¬ s.Yielding j g := fun y => by
  have := h.1.symm.trans y.1
  cases this

theorem State.Yielding.not_lating {s : State} {j : Judged} {g : Nat} (h : s.Yielding j g) : ¬ s.Lating j g := fun l => by
  rw [State.Lating, h.1] at l
  exact nomatch l.1

theorem judgeGroup_yielding {j : Judged} {g : Nat} {s : State} (h : s.Yielding j g) :
    judgeGroup j s g = withdrawQuiet g (some .withdrawn) s := by
  have judged := judgeGroup_judgedTo j g s
  generalize judgeGroup j s g = v at judged
  cases judged with
  | yields => rfl
  | stops c => exact absurd h c.not_yielding
  | late _ c => exact absurd c h.not_lating
  | spared c => exact absurd h c

theorem judgeGroup_stopping {j : Judged} {g : Nat} {s : State} (h : s.Stopping j g) :
    judgeGroup j s g = raise .conflictLate (groupDetail g) (endTest g .abortedConflict true s) := by
  have judged := judgeGroup_judgedTo j g s
  generalize judgeGroup j s g = v at judged
  cases judged with
  | yields c => exact absurd c h.not_yielding
  | stops => rfl
  | late c => exact absurd h c
  | spared _ c => exact absurd h.lating c

/-- The events of a judgement. -/
def judgementEvents : List Event := [.testAborted, .conflictLate, .recordCrcError]

theorem judgeGroup_passes (j : Judged) (g : Nat) (s : State) :
    Passes testParts judgementEvents (fun h => h = g ∧ s.Stopping j g) s (judgeGroup j s g) := by
  have judged := judgeGroup_judgedTo j g s
  generalize judgeGroup j s g = v at judged ⊢
  cases judged with
  | yields => exact (withdrawQuiet_passes g s).mono (by decide) nofun fun _ h => h.elim
  | stops c =>
    exact ((endTest_passes g _ true s).mono (fun _ h => h) (by decide) fun _ h => ⟨h.1, c⟩).trans
      (raise_passes _ _ _ (by decide) (by decide))
  | late => exact raise_passes _ _ s (by decide) (by decide)
  | spared => exact Passes.refl _ _ _ s

theorem judgeGroup_grow (j : Judged) (g : Nat) (s : State) : EventsGrow s (judgeGroup j s g) := by
  have judged := judgeGroup_judgedTo j g s
  generalize judgeGroup j s g = v at judged ⊢
  cases judged with
  | yields => exact .of_kept (withdrawQuiet_passes g s).events
  | stops => exact (endTest_grow g _ true s).trans (raise_grow _ _ _)
  | late => exact raise_grow _ _ s
  | spared => exact .refl s

theorem judgeGroup_figures (j : Judged) (g : Nat) (s : State) : (judgeGroup j s g).figures = s.figures :=
  (judgeGroup_passes j g s).keeps .figures (by decide)

theorem judgeGroup_spared {j : Judged} {g : Nat} {s : State} (hy : ¬ s.Yielding j g) (hs : ¬ s.Stopping j g) (h : Nat) :
    (judgeGroup j s g).group h = s.group h := by
  have judged := judgeGroup_judgedTo j g s
  generalize judgeGroup j s g = v at judged ⊢
  cases judged with
  | yields c => exact absurd c hy
  | stops c => exact absurd c hs
  | late => rfl
  | spared => rfl

/-- R82: the group that a judgement stops, afterwards. -/
def Group.stopped (gr : Group) (k : Nat) : Group :=
  { gr with
    state := .recovering, lastResult := some .abortedConflict, fails := min 7 (gr.fails + 1), dirty := true,
    claim := gr.claim.map (fun _ => { phase := .recovering, hold := none, refresh := some 60 })
    testStart := none, round := none, recharge := some k, rechargeDue := false,
    recTestStart := some ((gr.testStart.map TestStart.minute).getD 0), recFirstFailing := gr.firstFailing }

/-- R83: the recharge of group `g`, were its test to end now. -/
def State.rechargeNow (s : State) (g : Nat) : Nat :=
  earlyRecharge (s.group g).defn.rechargeHours (s.group g).defn.minutes (s.elapsed (s.group g))

theorem judgeGroup_stopped {j : Judged} {g : Nat} {s : State} (h : s.Stopping j g) :
    (judgeGroup j s g).group g = (s.group g).stopped (s.rechargeNow g) := by
  have hl : g < s.groups.length := State.lt_of_state (by rw [h.1]; decide)
  rw [judgeGroup_stopping h]
  show (endTest g .abortedConflict true s).group g = _
  rw [endTest_group g _ true s hl h.1]
  simp only [Group.finish, Group.applyResult, Group.enter, Group.stopped, h.1, GState.stored, Group.startMinute_eq,
    State.rechargeNow]
  simp

theorem judgeGroup_withdrawn {j : Judged} {g : Nat} {s : State} (h : s.Yielding j g) : Withdrawn g s (judgeGroup j s g) := by
  rw [judgeGroup_yielding h]
  exact withdrawQuiet_withdrawn g _ s h.1

/-- A group once judged is settled: the same report judged again does nothing more to it. -/
theorem judgeGroup_settled (j : Judged) (g : Nat) (s : State) :
    ¬ (judgeGroup j s g).Yielding j g ∧ ¬ (judgeGroup j s g).Stopping j g := by
  by_cases hy : s.Yielding j g
  · have due := (judgeGroup_withdrawn hy).state
    constructor <;> intro c
    · exact nomatch due.symm.trans c.1
    · exact nomatch due.symm.trans c.1
  · by_cases hs : s.Stopping j g
    · have recovering : ((judgeGroup j s g).group g).state = .recovering := by
        rw [judgeGroup_stopped hs]
        rfl
      constructor <;> intro c
      · exact nomatch recovering.symm.trans c.1
      · exact nomatch recovering.symm.trans c.1
    · have same := judgeGroup_spared hy hs g
      exact ⟨mt (State.Yielding.congr same (judgeGroup_figures j g s)).mp hy,
        mt (State.Stopping.congr same (judgeGroup_figures j g s)).mp hs⟩

theorem judgeGroup_stopping_mono {j : Judged} {g h : Nat} {s : State} (c : (judgeGroup j s g).Stopping j h) :
    h ≠ g ∧ s.Stopping j h := by
  have ne : h ≠ g := fun e => (judgeGroup_settled j g s).2 (e ▸ c)
  exact ⟨ne, (State.Stopping.congr (judgeGroup_group_ne j g h s ne) (judgeGroup_figures j g s)).mp c⟩

theorem judgeGroup_past (j : Judged) (g : Nat) (s : State) (h : Nat) :
    ((judgeGroup j s g).group h).state.past = (s.group h).state.past := by
  by_cases e : h = g
  · subst e
    by_cases hy : s.Yielding j h
    · rw [(judgeGroup_withdrawn hy).state, hy.1]
      rfl
    · by_cases hs : s.Stopping j h
      · rw [judgeGroup_stopped hs, hs.1]
        rfl
      · rw [judgeGroup_spared hy hs]
  · rw [judgeGroup_group_ne j g h s e]

theorem judgeGroup_defn (j : Judged) (g : Nat) (s : State) (h : Nat) :
    ((judgeGroup j s g).group h).defn = (s.group h).defn := by
  by_cases e : h = g
  · subst e
    by_cases hy : s.Yielding j h
    · exact (judgeGroup_withdrawn hy).defn
    · by_cases hs : s.Stopping j h
      · rw [judgeGroup_stopped hs]
        rfl
      · rw [judgeGroup_spared hy hs]
  · rw [judgeGroup_group_ne j g h s e]

theorem judgeGroup_lum {j : Judged} {g : Nat} {s : State} (m : Nat) (h : s.Stopping j g → m ∉ (s.group g).defn.members) :
    (judgeGroup j s g).lum m = s.lum m := by
  have judged := judgeGroup_judgedTo j g s
  generalize judgeGroup j s g = v at judged ⊢
  cases judged with
  | yields => exact congrArg (fun l : List Lum => l.getD m Lum.empty) (withdrawQuiet_keeps g _ s .lums (by decide))
  | stops c => exact (endTest_lum _ true c.1 m).trans (if_neg (h c))
  | late => rfl
  | spared => rfl

theorem judgeGroup_lum_stopped {j : Judged} {g : Nat} {s : State} {m : Nat} (h : s.Stopping j g)
    (hm : m ∈ (s.group g).defn.members) : (judgeGroup j s g).lum m = (s.lum m).ended s.now true (s.group g).startMinute := by
  rw [judgeGroup_stopping h]
  exact (endTest_lum _ true h.1 m).trans (if_pos hm)

/-! ### The judgement of one own group after another -/

/-- Step 1 of R35 over a list of own groups. -/
def judges (j : Judged) (l : List Nat) (s : State) : State := l.foldl (judgeGroup j) s

theorem judges_cons (j : Judged) (g : Nat) (l : List Nat) (s : State) : judges j (g :: l) s = judges j l (judgeGroup j s g) := rfl

theorem judges_append (j : Judged) (before after : List Nat) (s : State) :
    judges j (before ++ after) s = judges j after (judges j before s) := List.foldl_append

theorem judges_passes (j : Judged) (l : List Nat) (s : State) :
    Passes testParts judgementEvents (fun h => h ∈ l ∧ s.Stopping j h) s (judges j l s) := by
  induction l generalizing s with
  | nil => exact Passes.refl _ _ _ s
  | cons g gs ih =>
    refine ((judgeGroup_passes j g s).mono (fun _ h => h) (fun _ h => h) ?_).trans
      ((ih (judgeGroup j s g)).mono (fun _ h => h) (fun _ h => h) ?_)
    · rintro h ⟨rfl, c⟩
      exact ⟨List.mem_cons_self, c⟩
    · rintro h ⟨hm, c⟩
      exact ⟨List.mem_cons_of_mem _ hm, (judgeGroup_stopping_mono c).2⟩

theorem judges_grow (j : Judged) (l : List Nat) (s : State) : EventsGrow s (judges j l s) :=
  EventsGrow.foldl (fun s g => judgeGroup_grow j g s) l s

theorem judges_figures (j : Judged) (l : List Nat) (s : State) : (judges j l s).figures = s.figures :=
  (judges_passes j l s).keeps .figures (by decide)

theorem judges_now (j : Judged) (l : List Nat) (s : State) : (judges j l s).now = s.now := by
  unfold State.now
  rw [show (judges j l s).clock = s.clock from (judges_passes j l s).keeps .clock (by decide)]

theorem judges_past (j : Judged) (l : List Nat) (s : State) (h : Nat) :
    ((judges j l s).group h).state.past = (s.group h).state.past := by
  induction l generalizing s with
  | nil => rfl
  | cons g gs ih => exact (ih _).trans (judgeGroup_past j g s h)

/-- A group that the list does not judge, or that its judgement spares, is left as it is. -/
theorem judges_spared {j : Judged} {l : List Nat} {s : State} {h : Nat}
    (c : h ∈ l → ¬ s.Yielding j h ∧ ¬ s.Stopping j h) : (judges j l s).group h = s.group h := by
  induction l generalizing s with
  | nil => rfl
  | cons g gs ih =>
    have same : (judgeGroup j s g).group h = s.group h := by
      by_cases e : h = g
      · obtain ⟨hy, hs⟩ := c (e ▸ List.mem_cons_self)
        subst e
        exact judgeGroup_spared hy hs h
      · exact judgeGroup_group_ne j g h s e
    refine (ih fun hm => ?_).trans same
    rw [State.Yielding.congr same (judgeGroup_figures j g s), State.Stopping.congr same (judgeGroup_figures j g s)]
    exact c (List.mem_cons_of_mem _ hm)

/-- Where a list judges `g`, its first judgement alone acts on `g`. -/
theorem judges_at {j : Judged} {l : List Nat} {g : Nat} (s : State) (hg : g ∈ l) :
    ∃ before after, l = before ++ g :: after ∧ g ∉ before ∧ (judges j before s).group g = s.group g ∧
      (judges j l s).group g = (judgeGroup j (judges j before s) g).group g := by
  obtain ⟨before, after, rfl, notBefore⟩ := List.eq_append_cons_of_mem hg
  refine ⟨before, after, rfl, notBefore, judges_spared fun h => absurd h notBefore, ?_⟩
  rw [judges_append, judges_cons]
  exact judges_spared fun _ => judgeGroup_settled j g _

/-- Luminaire `l` with the working record of `m`. -/
def Lum.withRecordOf (l m : Lum) : Lum := { l with record := m.record, dirty := m.dirty }

/-- R85: two groups' ends of a test do one luminaire what one does. -/
def Lum.EndedAs (now : Nat) (l m : Lum) : Prop :=
  m = ((l.aborted now true).unrequested).withRecordOf m

theorem Lum.ended_endedAs (now minute : Nat) (l : Lum) : l.EndedAs now (l.ended now true minute) := by
  unfold Lum.EndedAs Lum.ended Lum.recorded
  cases ((l.aborted now true).unrequested).test.result <;> rfl

theorem Lum.aborted_twice {now : Nat} {l m : Lum} (h : l.EndedAs now m) : m.EndedAs now m := by
  unfold Lum.EndedAs at h ⊢
  rw [h]
  obtain ⟨test⟩ := l
  cases test <;> simp [Lum.aborted, Lum.unrequested, Lum.withRecordOf, TestState.live]

theorem Lum.EndedAs.trans {now : Nat} {k l m : Lum} (h : k.EndedAs now l) (e : l.EndedAs now m) : k.EndedAs now m := by
  calc
    m = (((l.aborted now true).unrequested).withRecordOf l).withRecordOf m := e
    _ = l.withRecordOf m := congrArg (Lum.withRecordOf · m) (Lum.aborted_twice h).symm
    _ = (((k.aborted now true).unrequested).withRecordOf l).withRecordOf m := congrArg (Lum.withRecordOf · m) h
    _ = ((k.aborted now true).unrequested).withRecordOf m := rfl

theorem judges_lum (j : Judged) (l : List Nat) (s : State) (m : Nat) (h : ∀ g ∈ l, s.Stopping j g → m ∉ (s.group g).defn.members) :
    (judges j l s).lum m = s.lum m := by
  induction l generalizing s with
  | nil => rfl
  | cons g gs ih =>
    refine (ih (judgeGroup j s g) fun k hk c => ?_).trans (judgeGroup_lum m (h g List.mem_cons_self))
    rw [judgeGroup_defn]
    exact h k (List.mem_cons_of_mem _ hk) (judgeGroup_stopping_mono c).2

theorem judgeGroup_now (j : Judged) (g : Nat) (s : State) : (judgeGroup j s g).now = s.now := judges_now j [g] s

theorem judges_lum_or (j : Judged) (l : List Nat) (s : State) (m : Nat) :
    (judges j l s).lum m = s.lum m ∨ (s.lum m).EndedAs s.now ((judges j l s).lum m) := by
  induction l generalizing s with
  | nil => exact .inl rfl
  | cons g gs ih =>
    have rest := ih (judgeGroup j s g)
    rw [judgeGroup_now, ← judges_cons] at rest
    by_cases c : s.Stopping j g ∧ m ∈ (s.group g).defn.members
    · have ended : (s.lum m).EndedAs s.now ((judgeGroup j s g).lum m) := by
        rw [judgeGroup_lum_stopped c.1 c.2]
        exact Lum.ended_endedAs _ _ _
      exact .inr (rest.elim (fun e => e ▸ ended) ended.trans)
    · rw [judgeGroup_lum m fun hs hm => c ⟨hs, hm⟩] at rest
      exact rest

end Sys2Proof.Machine

namespace Sys2Proof.Machine

/-! ## What the judgement of a report leaves, whole -/

/-! ### The history lines of the tests ended -/

theorem Lum.EndedAs.lineOf_eq {now g minute n : Nat} {l m : Lum} (h : l.EndedAs now m) (dead : l.test.live = false) :
    lineOf g minute n m = lineOf g minute n l := by
  unfold Lum.EndedAs at h
  rw [Lum.aborted_of_not_live _ _ dead] at h
  rw [h]
  rfl

theorem Lum.ended_dead (now minute : Nat) (owed : Bool) (l : Lum) : (l.ended now owed minute).test.live = false := by
  have recorded : ∀ k : Lum, (k.recorded minute).test = k.test := fun k => by
    unfold Lum.recorded
    cases k.test.result <;> rfl
  rw [Lum.ended, recorded]
  obtain ⟨test⟩ := l
  cases test <;> rfl

/-- The lines of a group that is stopped are those at its own stop: what is judged after it does nothing to them. -/
theorem judges_lines {j : Judged} {g : Nat} {s : State} (l : List Nat) (h : s.Stopping j g) :
    linesOf g s (judges j l (judgeGroup j s g)) = linesOf g s (judgeGroup j s g) := by
  rw [linesOf_eq, linesOf_eq]
  refine List.filterMap_congr fun n hn => ?_
  rcases judges_lum_or j l (judgeGroup j s g) n with e | e
  · rw [e]
  · refine e.lineOf_eq ?_
    rw [judgeGroup_lum_stopped h hn]
    exact Lum.ended_dead _ _ _ _

theorem judgeGroup_offered {j : Judged} {g : Nat} {s : State} (h : s.Stopping j g) :
    HistoryOffered (linesOf g s (judgeGroup j s g)) s (judgeGroup j s g) := by
  rw [judgeGroup_stopping h]
  have offered := (endTest_offered .abortedConflict true h.1).append
    (HistoryOffered.nil (t := raise .conflictLate (groupDetail g) (endTest g .abortedConflict true s)) rfl)
    (endTest_passes g .abortedConflict true s).length (raise_grow _ _ _)
  rw [List.append_nil] at offered
  exact offered

theorem judgeGroup_mem {j : Judged} {g : Nat} {s : State} (h : ¬ s.Stopping j g) : (judgeGroup j s g).mem = s.mem := by
  have judged := judgeGroup_judgedTo j g s
  generalize judgeGroup j s g = v at judged ⊢
  cases judged with
  | yields => exact withdrawQuiet_keeps g _ s .mem (by decide)
  | stops c => exact absurd c h
  | late => rfl
  | spared => rfl

theorem linesOf_congr {h : Nat} {s v u : State} (e : v.group h = s.group h) : linesOf h v u = linesOf h s u := by
  rw [linesOf_eq, linesOf_eq, e]

/-- R89, R161: the tests that a report ends offer their lines, group after group. -/
theorem judges_offered (j : Judged) (l gs : List Nat) (s : State) (nodup : l.Nodup) (sub : gs.Sublist l)
    (mem : ∀ g, g ∈ gs ↔ g ∈ l ∧ s.Stopping j g) :
    HistoryOffered (gs.flatMap fun g => linesOf g s (judges j l s)) s (judges j l s) := by
  induction l generalizing s gs with
  | nil =>
    cases sub
    exact .nil rfl
  | cons x xs ih =>
    obtain ⟨hx, hxs⟩ := List.nodup_cons.mp nodup
    have rest : ∀ hs : List Nat, hs.Sublist xs → (∀ g, g ∈ hs ↔ g ∈ xs ∧ s.Stopping j g) →
        HistoryOffered (hs.flatMap fun g => linesOf g s (judges j (x :: xs) s)) (judgeGroup j s x) (judges j (x :: xs) s) := by
      intro hs sub' mem'
      have ne : ∀ g ∈ xs, g ≠ x := fun g hg e => hx (e ▸ hg)
      have offered := ih hs (judgeGroup j s x) hxs sub' fun g => (mem' g).trans (and_congr_right fun hg =>
        (State.Stopping.congr (judgeGroup_group_ne j x g s (ne g hg)) (judgeGroup_figures j x s)).symm)
      have lines : (hs.flatMap fun g => linesOf g s (judges j (x :: xs) s)) =
          hs.flatMap fun g => linesOf g (judgeGroup j s x) (judges j xs (judgeGroup j s x)) :=
        List.flatMap_congr fun g hg => (linesOf_congr (judgeGroup_group_ne j x g s (ne g (sub'.subset hg)))).symm
      rw [lines]
      exact offered
    cases sub with
    | cons _ sub' =>
      have spared : ¬ s.Stopping j x := fun c => hx (sub'.subset ((mem x).mpr ⟨List.mem_cons_self, c⟩))
      have offered := (HistoryOffered.nil (judgeGroup_mem spared)).append
        (rest gs sub' fun g => ⟨fun hg => ⟨sub'.subset hg, ((mem g).mp hg).2⟩,
          fun hg => (mem g).mpr ⟨List.mem_cons_of_mem _ hg.1, hg.2⟩⟩)
        (judgeGroup_passes j x s).length (judges_grow j xs _)
      exact offered
    | cons_cons _ sub' =>
      rename_i hs
      have stopped : s.Stopping j x := ((mem x).mp List.mem_cons_self).2
      rw [List.flatMap_cons, show linesOf x s (judges j (x :: xs) s) = _ from judges_lines xs stopped]
      refine (judgeGroup_offered stopped).append (rest hs sub' fun g => ⟨fun hg => ⟨sub'.subset hg, ?_⟩, fun hg => ?_⟩)
        (judgeGroup_passes j x s).length (judges_grow j xs _)
      · exact ((mem g).mp (List.mem_cons_of_mem _ hg)).2
      · exact (List.mem_cons.mp ((mem g).mpr ⟨List.mem_cons_of_mem _ hg.1, hg.2⟩)).resolve_left fun e => hx (e ▸ hg.1)

/-! ### The events of the tests ended -/

/-- R46: with no test ended TEST_ABORTED has not occurred. -/
theorem judges_notAborted (j : Judged) (l : List Nat) (s : State) (h : ∀ g ∈ l, ¬ s.Stopping j g) :
    (judges j l s).events.cell Event.testAborted.number = s.events.cell Event.testAborted.number := by
  induction l generalizing s with
  | nil => rfl
  | cons g gs ih =>
    refine (ih (judgeGroup j s g) fun k hk c => h k (List.mem_cons_of_mem _ hk) (judgeGroup_stopping_mono c).2).trans ?_
    have judged := judgeGroup_judgedTo j g s
    generalize judgeGroup j s g = v at judged ⊢
    cases judged with
    | yields => exact (withdrawQuiet_passes g s).events.2 .testAborted nofun (by decide)
    | stops c => exact absurd c (h g List.mem_cons_self)
    | late => exact raise_cell_other _ _ _ (by decide) (by decide)
    | spared => rfl

theorem State.Lating.congr {s t : State} {j : Judged} {g : Nat} (h : (t.group g).state.past = (s.group g).state.past) :
    t.Lating j g ↔ s.Lating j g := by
  unfold State.Lating
  rw [h]

/-- R46, R47: with no late conflict CONFLICT_LATE has not occurred. -/
theorem judges_notLate (j : Judged) (l : List Nat) (s : State) (h : ∀ g ∈ l, ¬ s.Lating j g) :
    (judges j l s).events.cell Event.conflictLate.number = s.events.cell Event.conflictLate.number := by
  induction l generalizing s with
  | nil => rfl
  | cons g gs ih =>
    refine (ih (judgeGroup j s g) fun k hk c => h k (List.mem_cons_of_mem _ hk)
      ((State.Lating.congr (judgeGroup_past j g s k)).mp c)).trans ?_
    have judged := judgeGroup_judgedTo j g s
    generalize judgeGroup j s g = v at judged ⊢
    cases judged with
    | yields => exact (withdrawQuiet_passes g s).events.2 .conflictLate nofun (by decide)
    | stops c => exact absurd c.lating (h g List.mem_cons_self)
    | late _ c => exact absurd c (h g List.mem_cons_self)
    | spared => rfl

theorem judgeGroup_aborted {j : Judged} {g : Nat} {s : State} (h : s.Stopping j g) (hl : s.events.cells.length = 26) :
    Occurs .testAborted (groupDetail g) s (judgeGroup j s g) := by
  rw [judgeGroup_stopping h]
  exact (endTest_occurs .abortedConflict true h.1 hl).of_cell (raise_cell_other _ _ _ (by decide) (by decide))

theorem judgeGroup_late {j : Judged} {g : Nat} {s : State} (h : s.Lating j g) (hl : s.events.cells.length = 26) :
    Occurs .conflictLate (groupDetail g) s (judgeGroup j s g) := by
  have judged := judgeGroup_judgedTo j g s
  generalize judgeGroup j s g = v at judged ⊢
  cases judged with
  | yields c => exact absurd h c.not_lating
  | stops =>
    have length := (endTest_passes g .abortedConflict true s).length.trans hl
    exact (raise_occurs .conflictLate _ _ (by rw [length]; decide) (by decide)).after_growth (by decide) (endTest_grow g _ true s)
  | late => exact raise_occurs .conflictLate _ s (by rw [hl]; decide) (by decide)
  | spared _ c => exact absurd h c

theorem judges_settled {j : Judged} {l : List Nat} {g : Nat} (s : State) (hg : g ∈ l) : ¬ (judges j l s).Stopping j g := fun c => by
  obtain ⟨before, after, -, -, -, e⟩ := judges_at (j := j) s hg
  refine (judgeGroup_settled j g (judges j before s)).2 ((State.Stopping.congr e ?_).mp c)
  rw [judges_figures, judgeGroup_figures, judges_figures]

/-- R46: TEST_ABORTED occurs with the last test ended. -/
theorem judges_aborted {j : Judged} {before after : List Nat} {g : Nat} {s : State} (hl : s.events.cells.length = 26)
    (fresh : g ∉ before) (h : s.Stopping j g) (last : ∀ k ∈ after, ¬ s.Stopping j k) :
    Occurs .testAborted (groupDetail g) s (judges j (before ++ g :: after) s) := by
  rw [judges_append, judges_cons]
  have same : (judges j before s).group g = s.group g := judges_spared fun hm => absurd hm fresh
  have stops : (judges j before s).Stopping j g := (State.Stopping.congr same (judges_figures j before s)).mpr h
  have occurs := judgeGroup_aborted stops ((judges_passes j before s).length.trans hl)
  refine (occurs.after_growth (by decide) (judges_grow j before s)).of_cell (judges_notAborted j after _ fun k hk c => ?_)
  obtain ⟨-, c⟩ := judgeGroup_stopping_mono c
  by_cases hb : k ∈ before
  · exact judges_settled s hb c
  · exact last k hk ((State.Stopping.congr (judges_spared fun hm => absurd hm hb) (judges_figures j before s)).mp c)

/-- R46, R47: CONFLICT_LATE occurs with the last group of a late conflict. -/
theorem judges_late {j : Judged} {before after : List Nat} {g : Nat} {s : State} (hl : s.events.cells.length = 26)
    (h : s.Lating j g) (last : ∀ k ∈ after, ¬ s.Lating j k) :
    Occurs .conflictLate (groupDetail g) s (judges j (before ++ g :: after) s) := by
  rw [judges_append, judges_cons]
  have late : (judges j before s).Lating j g := (State.Lating.congr (judges_past j before s g)).mpr h
  have occurs := judgeGroup_late late ((judges_passes j before s).length.trans hl)
  refine (occurs.after_growth (by decide) (judges_grow j before s)).of_cell (judges_notLate j after _ fun k hk c => ?_)
  exact last k hk ((State.Lating.congr (judges_past j before s k)).mp ((State.Lating.congr (judgeGroup_past j g _ k)).mp c))

/-! ### The groups that the report ends -/

/-- R83: the model's whole-number form of the recharge is the quotient of the rationals, raised to the next whole number. -/
theorem earlyRecharge_eq (gr : Group) (e : Nat) (h : 0 < gr.defn.minutes) :
    earlyRecharge gr.defn.rechargeHours gr.defn.minutes e = gr.RechargeAfter e := by
  have quotient : (60 * gr.defn.rechargeHours * e + gr.defn.minutes - 1) / gr.defn.minutes =
      ⌈(60 * gr.defn.rechargeHours * e : ℚ) / (gr.defn.minutes : ℚ)⌉₊ := by
    refine eq_of_forall_ge_iff fun n => ?_
    rw [Nat.ceil_le, div_le_iff₀ (by exact_mod_cast h), Nat.div_le_iff_le_mul_add_pred h]
    have cast : ((60 * gr.defn.rechargeHours * e : ℚ) ≤ (n : ℚ) * (gr.defn.minutes : ℚ)) ↔
        60 * gr.defn.rechargeHours * e ≤ n * gr.defn.minutes := by exact_mod_cast Iff.rfl
    rw [cast, Nat.mul_comm n]
    omega
  unfold earlyRecharge Group.RechargeAfter
  rw [quotient]

theorem State.rechargeNow_eq {s : State} {g : Nat} {start : TestStart} (hs : (s.group g).testStart = some start)
    (hm : 0 < (s.group g).defn.minutes) : s.rechargeNow g = (s.group g).RechargeAfter ((s.now - start.tick) / 60000) := by
  unfold State.rechargeNow State.elapsed
  rw [hs, earlyRecharge_eq _ _ hm]
  rfl

theorem judgeGroup_claim_waits {j : Judged} {g : Nat} {s : State} (h : s.Stopping j g) (hc : (s.group g).claim ≠ none) :
    Waits
      (.claim g
        { phase := .recovering, urgency := (s.group g).claimUrgency, weight := (s.group g).defn.members.length,
          remaining := s.rechargeNow g, home := (s.group g).defn.home, neighbours := (s.group g).defn.neighbours })
      (judgeGroup j s g) := by
  have hl : g < s.groups.length := State.lt_of_state (by rw [h.1]; decide)
  obtain ⟨c, hc⟩ := Option.ne_none_iff_exists'.mp hc
  have keeps := abortMembers_keeps true (s.group g).defn.members s
  have groups : ((s.group g).defn.members.foldl (abortMember true) s).groups = s.groups := keeps .groups (by decide)
  have same := State.group_of_groups groups g
  rw [judgeGroup_stopping h, endTest_testing _ true h.1]
  have waits := finishTest_waits g .abortedConflict (s.rechargeNow g) .testAborted
    ((s.group g).defn.members.foldl (abortMember true) s) c (by rw [groups]; exact hl) (by rw [same]; exact hc)
  rw [same] at waits
  exact waits

/-- R89: what the writing of its record leaves of a member. -/
theorem Lum.recorded_spec (minute : Nat) (l : Lum) :
    (∀ x, (l.recorded minute).test.result = some x → (l.recorded minute).dirty = true ∧
      (l.recorded minute).record =
        { l.record with
          time := some minute, result := some x, achieved := (l.recorded minute).achieved,
          volts := (l.lastGood.map GoodReply.volts).getD 0#8, faults := (l.lastGood.map GoodReply.faults).getD 0#8 }) ∧
    ((l.recorded minute).test.result = none → (l.recorded minute).record = l.record ∧ (l.recorded minute).dirty = l.dirty) := by
  unfold Lum.recorded
  cases h : l.test.result with
  | none => exact ⟨fun x hx => absurd (h.symm.trans hx) nofun, fun _ => ⟨rfl, rfl⟩⟩
  | some r =>
    refine ⟨fun x hx => ⟨rfl, ?_⟩, fun hn => absurd (h.symm.trans hn) nofun⟩
    obtain rfl : r = x := Option.some.inj (h.symm.trans hx)
    rfl

/-- R46, R82: a test that a report ends has ended early. -/
theorem judges_endsEarly {j : Judged} {l : List Nat} {g : Nat} {s : State} (hg : g ∈ l) (h : s.Stopping j g) :
    EndsEarly g .abortedConflict true s (judges j l s) := by
  obtain ⟨before, after, split, fresh, same, after_same⟩ := judges_at (j := j) s hg
  let u := judges j before s
  have stops : u.Stopping j g := (State.Stopping.congr same (judges_figures j before s)).mpr h
  have now : u.now = s.now := judges_now j before s
  have whole : judges j l s = judges j after (judgeGroup j u g) := by
    rw [split, judges_append, judges_cons]
  have recharge : u.rechargeNow g = s.rechargeNow g := by
    unfold State.rechargeNow State.elapsed
    rw [same, now]
  have group : (judges j l s).group g = (s.group g).stopped (s.rechargeNow g) := by
    rw [after_same, judgeGroup_stopped stops, same, recharge]
  have ended : ∀ n ∈ (s.group g).defn.members, (judgeGroup j u g).lum n = (u.lum n).ended s.now true (s.group g).startMinute :=
    fun n hn => by rw [judgeGroup_lum_stopped stops (by rw [same]; exact hn), same, now]
  refine ⟨⟨s.rechargeNow g, fun start hs hm => ?_, group, fun hc => ?_⟩, fun n hn => ?_, fun n hn alone => ?_⟩
  · rw [judges_now]
    exact State.rechargeNow_eq hs hm
  · have waits := judgeGroup_claim_waits stops (by rw [same]; exact hc)
    rw [same, recharge] at waits
    rw [whole]
    exact (judges_passes j after _).claims g _ nofun (fun c => (judgeGroup_settled j g u).2 c.2) waits
  · have as : (s.lum n).EndedAs s.now ((judges j l s).lum n) := by
      have first : (s.lum n).EndedAs s.now ((judgeGroup j u g).lum n) := by
        rw [ended n hn]
        exact (judges_lum_or j before s n).elim (fun e => e ▸ Lum.ended_endedAs _ _ _)
          fun e => e.trans (Lum.ended_endedAs _ _ _)
      rw [whole]
      have rest := judges_lum_or j after (judgeGroup j u g) n
      rw [judgeGroup_now, now] at rest
      exact rest.elim (fun e => e ▸ first) first.trans
    rw [judges_now]
    exact as
  · have first : u.lum n = s.lum n := judges_lum j before s n fun k hk c => alone k (fun e => fresh (e ▸ hk)) c.1
    have later : (judges j l s).lum n = (judgeGroup j u g).lum n := by
      rw [whole]
      refine judges_lum j after _ n fun k _ c => ?_
      obtain ⟨ne, c⟩ := judgeGroup_stopping_mono c
      rw [judgeGroup_group_ne j g k u ne]
      by_cases hb : k ∈ before
      · exact absurd c (judges_settled s hb)
      · have e : u.group k = s.group k := judges_spared fun hm => absurd hm hb
        rw [e]
        exact alone k ne (by rw [← e]; exact c.1)
    rw [later, ended n hn, first]
    rw [← Group.startMinute_eq]
    exact Lum.recorded_spec (s.group g).startMinute ((s.lum n).aborted s.now true).unrequested

/-! ### The step, whole -/

/-- R35, step 1: the judgement of a report leaves what the statements say. -/
theorem judgeStep (j : Judged) (s : State) : JudgeStep j s (j.mask.foldl (judgeGroup j) s) := by
  have passes := judges_passes j j.mask s
  refine ⟨passes.keeps, passes.service, fun g h => ?_, fun g h => judges_endsEarly h.1 h.2, fun g hy hs => ?_, fun n hn => ?_,
    fun nodup gs sub mem => judges_offered j j.mask gs s nodup sub mem, fun hl nodup before g after split h last => ?_,
    fun hl before g after split h last => ?_, fun none => ?_, fun none => ?_, fun e h1 h2 h3 h4 => ?_,
    fun g b hb hs => passes.claims g b hb hs, passes.releases⟩
  · obtain ⟨hg, hy⟩ := h
    have hy : s.Yielding j g := hy
    obtain ⟨before, after, split, fresh, same, after_same⟩ := judges_at (j := j) s hg
    have yields := (State.Yielding.congr same (judges_figures j before s)).mpr hy
    refine ⟨(judgeGroup_withdrawn yields).of_same same.symm (judges_figures j before s).symm after_same, ?_⟩
    have whole : j.mask.foldl (judgeGroup j) s = judges j after (judgeGroup j (judges j before s) g) := by
      rw [← judges_cons, ← judges_append, ← split]
      rfl
    rw [whole]
    refine (judges_passes j after _).releases g ?_
    rw [judgeGroup_yielding yields]
    exact withdrawQuiet_waits g .withdrawn _ yields.1
  · exact judges_spared fun hm => ⟨fun c => hy ⟨hm, c⟩, fun c => hs ⟨hm, c⟩⟩
  · exact judges_lum j j.mask s n fun g hg c => hn g ⟨hg, c⟩
  · have fresh : g ∉ before := fun m => (List.nodup_append.mp (split ▸ nodup)).2.2 g m g List.mem_cons_self rfl
    have occurs := judges_aborted hl fresh h.2 (after := after) fun k hk c => last k hk
      ⟨by rw [split]; exact List.mem_append_right _ (List.mem_cons_of_mem _ hk), c⟩
    rw [← split] at occurs
    exact occurs
  · have occurs := judges_late (before := before) hl h.2 (after := after) fun k hk c => last k hk
      ⟨by rw [split]; exact List.mem_append_right _ (List.mem_cons_of_mem _ hk), c⟩
    rw [← split] at occurs
    exact occurs
  · exact judges_notAborted j j.mask s fun g hg c => none g ⟨hg, c⟩
  · exact judges_notLate j j.mask s fun g hg c => none g ⟨hg, c⟩
  · exact passes.events.2 e (by simp [judgementEvents, h1, h2, h3]) h4

end Sys2Proof.Machine

namespace Sys2Proof.Machine

/-! ## A report taken after the supervisor has taken its frame (R35, R131) -/

/-! ### The view changed after the supervisor's taking -/

theorem WithdrawnLatch.of_after {s w v : State} (h : WithdrawnLatch s w) (ho : v.overrun = w.overrun)
    (hg : v.groups = w.groups) (hc : v.events.cell Event.loadOver.number = w.events.cell Event.loadOver.number) :
    WithdrawnLatch s v where
  unchanged hn := ⟨ho.trans (h.unchanged hn).1, hc.trans (h.unchanged hn).2⟩
  changed g hg24 hp low := by
    have weight : v.ownWeight = w.ownWeight := by
      unfold State.ownWeight State.ownSet State.groupsIn State.group
      rw [hg]
    obtain ⟨latch, raised, quiet⟩ := h.changed g hg24 hp low
    refine ⟨?_, fun h1 h2 h3 k h4 h5 h6 => (raised h1 h2 h3 k h4 h5 h6).of_cell hc, fun hq => hc.trans (quiet hq)⟩
    rw [ho, weight]
    exact latch

/-- A change of the view, its hold and PEER_VIEW_FULL, after the supervisor has taken the frame. -/
structure Viewed (w v : State) : Prop where
  passes : Passes [.view, .overflow, .events] [.peerViewFull] (fun _ => False) w v

theorem Viewed.groups {w v : State} (h : Viewed w v) : v.groups = w.groups := h.passes.keeps .groups (by decide)

theorem Viewed.figures {w v : State} (h : Viewed w v) : v.figures = w.figures := h.passes.keeps .figures (by decide)

theorem Viewed.line {w v : State} (h : Viewed w v) : v.line = w.line := h.passes.keeps .line (by decide)

theorem Viewed.group {w v : State} (h : Viewed w v) (g : Nat) : v.group g = w.group g := State.group_of_groups h.groups g

theorem Viewed.setView (w : State) (v : List Entry) : Viewed w (w.setView v) :=
  ⟨Passes.of_keeps ((setView_keeps v w).mono (by decide)) rfl rfl rfl⟩

theorem startOverflow_viewed (w : State) : Viewed w (startOverflow w) :=
  ⟨Passes.of_keeps ((startOverflow_keeps w).mono (by decide)) rfl rfl rfl⟩

theorem Viewed.trans {u w v : State} (h : Viewed u w) (k : Viewed w v) : Viewed u v := ⟨h.passes.trans k.passes⟩

theorem Viewed.refl (w : State) : Viewed w w := ⟨Passes.refl _ _ _ w⟩

theorem viewFull_viewed (g : Nat) (w : State) : Viewed w (viewFull g w) :=
  Viewed.trans ⟨raise_passes .peerViewFull (groupDetail g) w (by decide) (by decide)⟩ (startOverflow_viewed _)

theorem Delivered.viewed {s w v : State} (h : Delivered s w) (k : Viewed w v) (noted : RestartNoted s v) : Delivered s v where
  keeps := h.keeps.trans (k.passes.keeps.mono (by decide))
  service := noted
  listening hr := by
    obtain ⟨sup, groups⟩ := h.listening hr
    refine ⟨(k.passes.keeps .sup (by decide)).trans sup, fun g hg => ⟨fun hp => ?_, fun hp => ?_⟩⟩
    · obtain ⟨withdrawn, waits⟩ := (groups g hg).1 hp
      exact ⟨withdrawn.of_same rfl rfl (k.group g), (Waits.of_line k.line).mpr waits⟩
    · exact (k.group g).trans ((groups g hg).2 hp)
  latch hr := (h.latch hr).of_after (k.passes.keeps .overrun (by decide)) k.groups
    (k.passes.events.2 .loadOver (by decide) (by decide))
  cells e h1 h2 h3 := (k.passes.events.2 e (by simpa using h3) h2).trans (h.cells e h1 h2 h3)
  quiet hr := by
    obtain ⟨keeps, line, sup⟩ := h.quiet hr
    exact ⟨keeps.trans (k.passes.keeps.mono (by decide)), k.line.trans line, (k.passes.keeps .sup (by decide)).trans sup⟩

/-! ### From the frame to the load steps -/

/-- The chain of R131 and R35: `w` is what the supervisor and the view have made of `s`, `u` what the judgement of `j` has made
of `w`, and `t` what the load steps have made of `u`. -/
structure Taken (j : Judged) (s w u t : State) : Prop where
  delivered : Delivered s w
  thinned : Thinned s w
  step : JudgeStep j w u
  load : LoadSteps u t

section
variable {j : Judged} {s w u t : State}

theorem Taken.outranked (h : Taken j s w u t) (g : Nat) : w.Outranked j g ↔ s.Outranked j g := by
  unfold State.Outranked
  rw [h.thinned.claimUrgency, h.thinned.figures]

theorem Taken.stops (h : Taken j s w u t) (g : Nat) : w.Stops j g ↔ s.Stops j g := by
  have testing : (w.group g).state = .testing ↔ (s.group g).state = .testing := by
    rcases h.thinned.group g with e | ⟨hp, withdrawn⟩
    · rw [e]
    · rw [withdrawn.state, hp]
      simp
  unfold State.Stops
  rw [h.outranked, testing]

theorem Taken.late (h : Taken j s w u t) (g : Nat) : w.Late j g ↔ s.Late j g := by
  unfold State.Late
  rw [h.thinned.past]

theorem Taken.group_of_quiet (h : Taken j s w u t) (hr : ¬ s.Relistens) (g : Nat) : w.group g = s.group g :=
  State.group_of_groups ((h.delivered.quiet hr).1 .groups (by decide)) g

theorem Taken.lums (h : Taken j s w u t) : w.lums = s.lums := h.delivered.keeps .lums (by decide)

theorem Taken.lum (h : Taken j s w u t) (n : Nat) : w.lum n = s.lum n := by
  unfold State.lum
  rw [h.lums]

theorem Taken.loaded_lum (h : Taken j s w u t) (n : Nat) : t.lum n = u.lum n := by
  unfold State.lum
  rw [show t.lums = u.lums from h.load.keeps .lums (by decide)]

theorem Taken.loaded_now (h : Taken j s w u t) : t.now = u.now := by
  unfold State.now
  rw [show t.clock = u.clock from h.load.keeps .clock (by decide)]

/-- R36: a group that yields has been withdrawn, by the judgement or before it (R39). -/
theorem Taken.yields (h : Taken j s w u t) {g : Nat} (hg : g < 24) (c : s.Yields j g) :
    Withdrawn g s t ∧ Waits (.release g .withdrawn) t := by
  obtain ⟨hm, hp, hj⟩ := c
  have inU : Withdrawn g s u ∧ Waits (.release g .withdrawn) u := by
    by_cases hr : s.Relistens
    · obtain ⟨withdrawn, waits⟩ := ((h.delivered.listening hr).2 g hg).1 hp
      have spared : u.group g = w.group g := h.step.others g (fun y => nomatch withdrawn.state.symm.trans y.2.1)
        (fun y => nomatch withdrawn.state.symm.trans y.2.1)
      exact ⟨withdrawn.of_same rfl rfl spared, h.step.releases g waits⟩
    · have same := h.group_of_quiet hr g
      obtain ⟨withdrawn, waits⟩ := h.step.withdrawn g ⟨hm, by rw [same]; exact hp, by rw [h.outranked]; exact hj⟩
      exact ⟨withdrawn.of_same same.symm h.thinned.figures.symm rfl, waits⟩
  exact ⟨inU.1.of_same rfl rfl (h.load.others g (by rw [inU.1.state]; decide)), h.load.releases g inU.2⟩

/-- R46: a group whose test the report ends. -/
theorem Taken.stopped (h : Taken j s w u t) {g : Nat} (c : s.Stops j g) : EndsEarly g .abortedConflict true s t := by
  have same : ∀ k, (s.group k).state = .testing → w.group k = s.group k := fun k hk => h.thinned.kept (by rw [hk]; decide)
  have sg := same g c.2.1
  obtain ⟨⟨k, recharge, group, claim⟩, members, records⟩ := h.step.ended g ((h.stops g).mpr c)
  rw [sg] at recharge group claim members records
  have loaded : t.group g = u.group g := h.load.others g (by rw [group]; nofun)
  refine ⟨⟨k, fun start hs hm => ?_, loaded.trans group, fun hc => ?_⟩, fun n hn => ?_, fun n hn alone => ?_⟩
  · rw [h.loaded_now]
    exact recharge start hs hm
  · exact h.load.claims g _ nofun (claim hc)
  · have member := members n hn
    rw [h.lum] at member
    rw [h.loaded_lum, h.loaded_now]
    exact member
  · have record := records n hn fun k hk ht => by
      have hs : (s.group k).state = .testing := by
        rcases h.thinned.group k with e | ⟨-, withdrawn⟩
        · rw [← e]
          exact ht
        · exact nomatch withdrawn.state.symm.trans ht
      rw [same k hs]
      exact alone k hk hs
    rw [h.lum] at record
    rw [h.loaded_lum]
    exact record

theorem Taken.others (h : Taken j s w u t) {g : Nat} (hp : (s.group g).state ≠ .proposed) (c : ¬ s.Stops j g) :
    t.group g = s.group g := by
  have same : w.group g = s.group g := h.thinned.kept hp
  have spared : u.group g = w.group g :=
    h.step.others g (fun y => hp (by rw [← same]; exact y.2.1)) (fun y => c ((h.stops g).mp y))
  rw [h.load.others g (by rw [spared, same]; exact hp), spared, same]

/-- The weight of a reduced set that has only shrunk. -/
theorem State.ownWeight_le_of {s u : State} (h : ∀ g, (u.group g).defn = (s.group g).defn ∧
    ((u.group g).state.reduced = true → (s.group g).state.reduced = true)) : u.ownWeight ≤ s.ownWeight := by
  rw [State.ownWeight_eq, State.ownWeight_eq]
  have defns : (fun g => (u.group g).defn.members.length) = fun g => (s.group g).defn.members.length :=
    funext fun g => by rw [(h g).1]
  rw [defns]
  have sub : ((List.range 24).filter (fun g => (u.group g).state.reduced)).Sublist
      ((List.range 24).filter (fun g => (s.group g).state.reduced)) := List.monotone_filter_right _ fun g => (h g).2
  exact (sub.map _).sum_le_sum fun _ _ => Nat.zero_le _

theorem JudgeStep.ownWeight_le (h : JudgeStep j w u) : u.ownWeight ≤ w.ownWeight := by
  refine State.ownWeight_le_of fun g => ?_
  by_cases hy : w.Yields j g
  · have withdrawn := (h.withdrawn g hy).1
    exact ⟨withdrawn.defn, fun hr => by rw [withdrawn.state] at hr; cases hr⟩
  · by_cases hs : w.Stops j g
    · obtain ⟨⟨k, -, group, -⟩, -, -⟩ := h.ended g hs
      exact ⟨by rw [group], fun _ => by rw [hs.2.1]; rfl⟩
    · rw [h.others g hy hs]
      exact ⟨rfl, id⟩

/-- R36, R37: a PROPOSED group that what is judged spares stays, where the load is within the cap. -/
theorem Taken.spared (h : Taken j s w u t) {g : Nat} (hg : g < 24) (hp : (s.group g).state = .proposed)
    (hy : ¬ s.Yields j g) (hr : ¬ s.Relistens) (fits : t.viewLoad + s.ownWeight ≤ s.figures.cap) : t.group g = s.group g := by
  have same := h.group_of_quiet hr g
  have spared : u.group g = w.group g := by
    refine h.step.others g (fun y => hy ⟨y.1, hp, ?_⟩) (fun y => ?_)
    · rw [← h.outranked]
      exact y.2.2
    · rw [State.Stops, same, hp] at y
      exact nomatch y.2.1
  have up : (u.group g).state = .proposed := by rw [spared, same, hp]
  classical
  let lost := (List.range 24).filter fun k =>
    decide ((u.group k).state = .proposed ∧ u.JudgedBefore k g ∧ (t.group k).state = .due)
  have contest := h.load.contest g hg up lost (List.Nodup.filter _ List.nodup_range) fun k => by
    rw [List.mem_filter, List.mem_range, decide_eq_true_iff]
  refine ((contest.2 fun c => ?_).trans spared).trans same
  have view : t.viewLoad = u.viewLoad := by
    unfold State.viewLoad
    rw [show t.view = u.view from h.load.keeps .view (by decide)]
  have figures : u.figures = s.figures := (h.step.keeps .figures (by decide)).trans h.thinned.figures
  have less := h.step.ownWeight_le.trans h.thinned.ownWeight_le
  have exceeds := c.1
  rw [figures] at exceeds
  omega

theorem Taken.cell (h : Taken j s w u t) {e : Event} (h1 : e ≠ .loadOver) (h2 : e ≠ .reportOverrun) (h3 : e ≠ .peerViewFull)
    {d : Detail} (o : Occurs e d w u) : Occurs e d s t := by
  refine Occurs.of_cell ?_ (h.load.cells e h1 h2)
  unfold Occurs at o ⊢
  rw [o, h.delivered.cells e h1 h2 h3]

theorem Taken.cell_kept (h : Taken j s w u t) {e : Event} (h1 : e ≠ .loadOver) (h2 : e ≠ .reportOverrun) (h3 : e ≠ .peerViewFull)
    (o : u.events.cell e.number = w.events.cell e.number) : t.events.cell e.number = s.events.cell e.number :=
  ((h.load.cells e h1 h2).trans o).trans (h.delivered.cells e h1 h2 h3)

end

/-- The last of an ascending list: what stands behind it does not satisfy what it is the last of. -/
theorem last_of_ascending {l before after : List Nat} {g : Nat} {p : Nat → Prop} (sorted : l.Pairwise (· < ·))
    (split : l = before ++ g :: after) (last : ∀ h, p h → h ≤ g) : ∀ h ∈ after, ¬ p h := fun h hh c => by
  rw [split] at sorted
  have := List.rel_of_pairwise_cons (List.pairwise_append.mp sorted).2.1 hh
  have := last h c
  omega

theorem State.conflictMask_ascending (s : State) (home : Nat) (near : List Nat) :
    (s.conflictMask home near).Pairwise (· < ·) := (List.pairwise_lt_range.filter _).filter _

/-- R46: TEST_ABORTED occurs with the last group of an ascending mask whose test the report ends. -/
theorem Taken.aborted {j : Judged} {s w u t : State} (h : Taken j s w u t) (hl : w.events.cells.length = 26)
    (sorted : j.mask.Pairwise (· < ·)) {g : Nat} (hg : s.Stops j g) (last : ∀ k, s.Stops j k → k ≤ g) :
    Occurs .testAborted (groupDetail g) s t := by
  obtain ⟨before, after, split⟩ := List.append_of_mem hg.1
  refine h.cell (by decide) (by decide) (by decide) (h.step.aborted hl (sorted.imp fun h => Nat.ne_of_lt h) before g after split
    ((h.stops g).mpr hg) fun k hk c => ?_)
  exact last_of_ascending sorted split last k hk ((h.stops k).mp c)

/-- R46, R47: CONFLICT_LATE occurs with the last group of an ascending mask that the report is late for. -/
theorem Taken.conflictLate {j : Judged} {s w u t : State} (h : Taken j s w u t) (hl : w.events.cells.length = 26)
    (sorted : j.mask.Pairwise (· < ·)) {g : Nat} (hg : s.Late j g) (last : ∀ k, s.Late j k → k ≤ g) :
    Occurs .conflictLate (groupDetail g) s t := by
  obtain ⟨before, after, split⟩ := List.append_of_mem hg.1
  refine h.cell (by decide) (by decide) (by decide) (h.step.late hl before g after split ((h.late g).mpr hg) fun k hk c => ?_)
  exact last_of_ascending sorted split last k hk ((h.late k).mp c)

end Sys2Proof.Machine

namespace Sys2Proof.Machine

/-! ## A CLAIM received (R51 to R53) -/

/-- R51 to R53: the view with a CLAIM taken in. -/
def withClaim (x : Nat) (c : ClaimFrame) (s : State) : State :=
  match s.view.find? (fun e => e.hasKey x c.group) with
  | some _ => s.setView (s.view.map (fun e => if e.hasKey x c.group then s.entryOf x c else e))
  | none => if s.view.length < 48 then s.setView (s.view ++ [s.entryOf x c]) else viewFull c.group s

/-- R52: what is judged at a CLAIM. -/
def judgedOf (x : Nat) (c : ClaimFrame) (s : State) : Judged :=
  (s.entryOf x c).judged ((s.view.find? (fun e => e.hasKey x c.group)).bind Entry.previousPhase)

theorem takeClaim_eq (x : Nat) (c : ClaimFrame) (s : State) :
    takeClaim x c s = judge (judgedOf x c s) (withClaim x c s) := by
  unfold takeClaim judgedOf withClaim
  cases s.view.find? (fun e => e.hasKey x c.group) with
  | some old => rfl
  | none =>
    simp only [Option.bind_none]
    split
    · rename_i room
      rw [if_pos (show s.view.length < 48 from room)]
    · rename_i full
      rw [if_neg (show ¬ s.view.length < 48 from full)]

theorem withClaim_viewed (x : Nat) (c : ClaimFrame) (s : State) : Viewed s (withClaim x c s) := by
  unfold withClaim
  split
  · exact .setView s _
  · split
    · exact .setView s _
    · exact viewFull_viewed _ s

theorem find_none_iff_any {s : State} {p : Entry → Bool} : s.view.find? p = none ↔ s.view.any p = false := by
  rw [List.find?_eq_none, List.any_eq_false]

theorem withClaim_held {x : Nat} {c : ClaimFrame} {s : State} (h : s.view.any (fun e => e.hasKey x c.group) = true) :
    withClaim x c s = s.setView (s.view.map (fun e => if e.hasKey x c.group then s.entryOf x c else e)) := by
  have found : s.view.find? (fun e => e.hasKey x c.group) ≠ none := fun e => by
    rw [find_none_iff_any, h] at e
    cases e
  obtain ⟨old, e⟩ := Option.ne_none_iff_exists'.mp found
  unfold withClaim
  rw [e]

theorem withClaim_appended {x : Nat} {c : ClaimFrame} {s : State} (h : s.view.any (fun e => e.hasKey x c.group) = false)
    (room : s.view.length < 48) : withClaim x c s = s.setView (s.view ++ [s.entryOf x c]) := by
  unfold withClaim
  rw [find_none_iff_any.mpr h]
  exact if_pos room

theorem withClaim_full {x : Nat} {c : ClaimFrame} {s : State} (h : s.view.any (fun e => e.hasKey x c.group) = false)
    (full : 48 ≤ s.view.length) : withClaim x c s = viewFull c.group s := by
  unfold withClaim
  rw [find_none_iff_any.mpr h]
  exact if_neg (Nat.not_lt.mpr full)

theorem Thinned.inUse {s w : State} (h : Thinned s w) (g : Nat) : (w.group g).state = .unused ↔ (s.group g).state = .unused := by
  rcases h.group g with e | ⟨hp, withdrawn⟩
  · rw [e]
  · rw [withdrawn.state, hp]
    simp

theorem Thinned.usedGroups {s w : State} (h : Thinned s w) : w.usedGroups = s.usedGroups := by
  refine List.filter_congr fun g _ => ?_
  rw [Group.inUse, Group.inUse]
  exact decide_eq_decide.mpr (not_congr (h.inUse g))

/-- R24: a mask does not depend on the claims withdrawn. -/
theorem Thinned.conflictMask {s w : State} (h : Thinned s w) (home : Nat) (near : List Nat) :
    w.conflictMask home near = s.conflictMask home near := by
  unfold State.conflictMask
  rw [h.usedGroups]
  exact List.filter_congr fun g _ => by rw [h.defn]

theorem Thinned.entryOf {s w : State} (h : Thinned s w) (x : Nat) (c : ClaimFrame) : w.entryOf x c = s.entryOf x c := by
  unfold State.entryOf
  rw [h.conflictMask]

theorem exec_claimReceived {s : State} {src dst : Byte} {payload : List Byte} {ms : Nat} {c : ClaimFrame}
    (h : s.HearsPeer src dst) (hc : ClaimFrame.read payload = some c) :
    exec (.claimReceived src dst payload ms) s = .next (relight s (takeClaim src.toNat c (heard (s.atMs ms)))) := by
  show execClaimReceived src dst payload ms s = _
  unfold execClaimReceived
  rw [live_powered _ h.hears.powered, deliverProtocol_heard h, hc]

/-- The parts that a CLAIM or BEACON can touch. -/
def reportParts : List Part := [.sup, .groups, .lums, .mem, .line, .events, .service, .overrun, .view, .overflow]

/-- The events of a CLAIM or BEACON. -/
def reportEvents : List Event := [.loadOver, .testAborted, .conflictLate, .recordCrcError, .peerViewFull]

/-- What a CLAIM passes over, to the end of its load steps. -/
theorem report_passes {j : Judged} {s w : State} (hw : Viewed (heard s) w) :
    Passes reportParts reportEvents (fun _ => True) s (loadSteps (j.mask.foldl (judgeGroup j) w)) := by
  have heardPart := (heard_passes s).mono (qs := reportParts) (fs := reportEvents) (more := fun _ => True) (by decide) (by decide)
    fun _ _ => trivial
  have viewPart := hw.passes.mono (qs := reportParts) (fs := reportEvents) (more := fun _ => True) (by decide) (by decide)
    fun _ _ => trivial
  have judgePart := (judges_passes j j.mask w).mono (qs := reportParts) (fs := reportEvents) (more := fun _ => True) (by decide)
    (by decide) fun _ _ => trivial
  have loadPart := (loadSteps_passes (j.mask.foldl (judgeGroup j) w)).mono (qs := reportParts) (fs := reportEvents)
    (more := fun _ => True) (by decide) (by decide) fun _ _ => trivial
  exact ((heardPart.trans viewPart).trans judgePart).trans loadPart

/-- The view, its hold, the supervisor and PEER_VIEW_FULL are left to their own blocks by the judgement and the load steps. -/
theorem judged_parts (j : Judged) (w : State) :
    (loadSteps (j.mask.foldl (judgeGroup j) w)).view = w.view ∧
    (loadSteps (j.mask.foldl (judgeGroup j) w)).overflow = w.overflow ∧
    (loadSteps (j.mask.foldl (judgeGroup j) w)).sup = w.sup ∧
    (loadSteps (j.mask.foldl (judgeGroup j) w)).events.cell Event.peerViewFull.number =
      w.events.cell Event.peerViewFull.number := by
  have load := loadSteps_passes (j.mask.foldl (judgeGroup j) w)
  have judged := judges_passes j j.mask w
  exact ⟨(load.keeps .view (by decide)).trans (judged.keeps .view (by decide)),
    (load.keeps .overflow (by decide)).trans (judged.keeps .overflow (by decide)),
    (load.keeps .sup (by decide)).trans (judged.keeps .sup (by decide)),
    (load.events.2 .peerViewFull (by decide) (by decide)).trans (judged.events.2 .peerViewFull (by decide) (by decide))⟩

theorem Taken.relight {j : Judged} {s w u t : State} (v : State) (h : Taken j s w u t) : Taken j s w u (relight v t) :=
  ⟨h.delivered, h.thinned, h.step, h.load.relight v⟩

theorem taken_of_viewed {j : Judged} {s w : State} (hc : s.sup.mode.configured = true) (hw : Viewed (heard s) w) :
    Taken j s w (j.mask.foldl (judgeGroup j) w) (loadSteps (j.mask.foldl (judgeGroup j) w)) where
  delivered := (heard_delivered hc).viewed hw
    (((heard_passes s).mono (qs := reportParts) (fs := reportEvents) (more := fun _ => True) (by decide) (by decide)
      fun _ _ => trivial).trans (hw.passes.mono (by decide) (by decide) fun _ _ => trivial)).service
  thinned := (heard_thinned s).trans (.of_same hw.figures hw.groups)
  step := judgeStep j w
  load := loadSteps_spec _

theorem EndsEarly.of_same {g : Nat} {r : GResult} {owed : Bool} {s s' t : State} (h : EndsEarly g r owed s' t)
    (hg : s'.groups = s.groups) (hl : s'.lums = s.lums) : EndsEarly g r owed s t := by
  obtain ⟨group, members, records⟩ := h
  cases s
  cases s'
  cases hg
  cases hl
  exact ⟨group, members, records⟩

/-- R51 to R53: what the view makes of a CLAIM. -/
structure ClaimViewed (x : Nat) (c : ClaimFrame) (e : Entry) (key : Entry → Bool) (s v : State) : Prop where
  held : s.view.any key = true → v.view = s.view.map (fun f => if key f = true then e else f) ∧ v.overflow = s.overflow
  appended : s.view.any key = false → s.view.length < 48 → v.view = s.view ++ [e] ∧ v.overflow = s.overflow
  full : s.view.any key = false → 48 ≤ s.view.length →
    v.view = s.view ∧ v.overflow = some 300 ∧ Occurs .peerViewFull (groupDetail c.group) s v
  quiet : (s.view.any key = true ∨ s.view.length < 48) →
    v.events.cell Event.peerViewFull.number = s.events.cell Event.peerViewFull.number

theorem ClaimViewed.of_after {x : Nat} {c : ClaimFrame} {e : Entry} {key : Entry → Bool} {s w t : State}
    (h : ClaimViewed x c e key s w) (view : t.view = w.view) (overflow : t.overflow = w.overflow)
    (cell : t.events.cell Event.peerViewFull.number = w.events.cell Event.peerViewFull.number) : ClaimViewed x c e key s t where
  held k := ⟨view.trans (h.held k).1, overflow.trans (h.held k).2⟩
  appended k r := ⟨view.trans (h.appended k r).1, overflow.trans (h.appended k r).2⟩
  full k f := ⟨view.trans (h.full k f).1, overflow.trans (h.full k f).2.1, (h.full k f).2.2.of_cell cell⟩
  quiet k := cell.trans (h.quiet k)

theorem withClaim_spec {x : Nat} {c : ClaimFrame} {s w : State} (thin : Thinned s w) (view : w.view = s.view)
    (overflow : w.overflow = s.overflow)
    (cell : w.events.cell Event.peerViewFull.number = s.events.cell Event.peerViewFull.number)
    (hl : w.events.cells.length = 26) :
    ClaimViewed x c (s.entryOf x c) (fun f => decide (f.station = x ∧ f.group = c.group)) s (withClaim x c w) := by
  let key : Entry → Bool := fun f => decide (f.station = x ∧ f.group = c.group)
  have held : s.view.any key = true →
      withClaim x c w = w.setView (w.view.map (fun e => if e.hasKey x c.group then w.entryOf x c else e)) :=
    fun h => withClaim_held (by rw [view]; exact h)
  have appended : s.view.any key = false → s.view.length < 48 →
      withClaim x c w = w.setView (w.view ++ [w.entryOf x c]) :=
    fun h room => withClaim_appended (by rw [view]; exact h) (by rw [view]; exact room)
  refine ⟨fun h => ?_, fun h room => ?_, fun h full => ?_, fun h => ?_⟩
  · rw [held h, thin.entryOf, view]
    exact ⟨rfl, overflow⟩
  · rw [appended h room, thin.entryOf, view]
    exact ⟨rfl, overflow⟩
  · have e : withClaim x c w = viewFull c.group w := withClaim_full (by rw [view]; exact h) (by rw [view]; exact full)
    rw [e]
    refine ⟨view, rfl, ?_⟩
    have occurs := raise_occurs .peerViewFull (groupDetail c.group) w (by rw [hl]; decide) (by decide)
    unfold Occurs at occurs ⊢
    rw [cell] at occurs
    exact occurs
  · by_cases k : s.view.any key = true
    · rw [held k]
      exact cell
    · rw [appended (Bool.eq_false_of_not_eq_true k) (h.resolve_left k)]
      exact cell

theorem judgedOf_eq {x : Nat} {c : ClaimFrame} {s w : State} (thin : Thinned s w) (view : w.view = s.view) :
    judgedOf x c w =
      { station := x, group := c.group, phase := c.phase, urgency := some c.full.urgency,
        mask := s.conflictMask c.full.home c.full.neighbours,
        previous := (s.view.find? (fun f => decide (f.station = x ∧ f.group = c.group))).bind
          (fun f => if f.full = none then none else some f.phase) } := by
  have previous : Entry.previousPhase = fun f => if f.full = none then none else some f.phase := funext fun f => by
    unfold Entry.previousPhase
    cases f.full <;> rfl
  unfold judgedOf
  rw [thin.entryOf, view, previous]
  rfl

/-- R131, R35: what a CLAIM from another station makes of `s`, step after step. -/
theorem claim_taken {s : State} {src dst : Byte} {payload : List Byte} {ms : Nat} {c : ClaimFrame} {j : Judged}
    (h : s.HearsPeer src dst) (hr : ClaimFrame.read payload = some c) (hl : s.events.cells.length = 26)
    (hj : j =
      { station := src.toNat, group := c.group, phase := c.phase, urgency := some c.full.urgency,
        mask := s.conflictMask c.full.home c.full.neighbours,
        previous := (s.view.find? (fun f => decide (f.station = src.toNat ∧ f.group = c.group))).bind
          (fun f => if f.full = none then none else some f.phase) }) :
    ∃ w u t, exec (.claimReceived src dst payload ms) s = .next (relight s t) ∧ Taken j (s.atMs ms) w u t ∧
      w.events.cells.length = 26 ∧ w.view = t.view ∧ w.overflow = t.overflow ∧
      t.sup.silence = some (s.figures.silence * 60) ∧ Passes reportParts reportEvents (fun _ => True) (s.atMs ms) t ∧
      ClaimViewed src.toNat c (s.entryOf src.toNat c) (fun f => decide (f.station = src.toNat ∧ f.group = c.group)) (s.atMs ms)
        t := by
  have passes := heard_passes (s.atMs ms)
  have sup := heard_sup (s := s.atMs ms) h.mode
  have thin := heard_thinned (s.atMs ms)
  have exec_eq := exec_claimReceived (ms := ms) h hr
  have taken := fun w => taken_of_viewed (j := j) (s := s.atMs ms) (w := w) h.mode
  have whole := fun w => report_passes (s := s.atMs ms) (j := j) (w := w)
  generalize heard (s.atMs ms) = v at *
  have view : v.view = s.view := passes.keeps .view (by decide)
  have judged : judgedOf src.toNat c v = j := hj ▸ judgedOf_eq (s := s.atMs ms) thin view
  have viewed := withClaim_viewed src.toNat c v
  have spec := withClaim_spec (x := src.toNat) (c := c) thin view (passes.keeps .overflow (by decide))
    (passes.events.2 .peerViewFull (by decide) (by decide)) (passes.length.trans hl)
  rw [takeClaim_eq, judged] at exec_eq
  obtain ⟨tview, toverflow, tsup, tcell⟩ := judged_parts j (withClaim src.toNat c v)
  have wsup : (withClaim src.toNat c v).sup = v.sup := viewed.passes.keeps .sup (by decide)
  refine ⟨_, _, _, exec_eq, taken _ viewed, viewed.passes.length.trans (passes.length.trans hl), tview.symm, toverflow.symm, ?_,
    whole _ viewed, spec.of_after tview toverflow tcell⟩
  exact (congrArg Supervisor.silence (tsup.trans wsup)).trans sup.1

/-- Settles O41. -/
theorem claimIsTakenIntoTheView : Obligations.ClaimIsTakenIntoTheView := by
  refine ⟨readsClaim, fun s src dst payload ms c h hr hl => ?_⟩
  intro x mask e key j last
  obtain ⟨w, u, t, exec_eq, taken, wlength, view, overflow, silence, whole, viewed⟩ := claim_taken (ms := ms) (j := j) h hr hl rfl
  have sorted : j.mask.Pairwise (· < ·) := s.conflictMask_ascending _ _
  have below : ∀ g ∈ j.mask, g < 24 := fun g hg => ((s.mem_conflictMask _ _ g).mp hg).1
  have taken := taken.relight s
  refine ⟨relight s t, w, u, exec_eq, taken.delivered, view, overflow, taken.step, taken.load, silence, whole.service,
    viewed.held, viewed.appended, viewed.full, viewed.quiet, fun g hy => taken.yields (below g hy.1) hy,
    fun g hg hp hy hn fits => taken.spared (below g hg) hp hy hn fits, fun g hs => (taken.stopped hs).of_same rfl rfl,
    fun g hp hs => taken.others hp hs, fun g hg => taken.aborted wlength sorted hg.1 hg.2,
    fun g hg => taken.conflictLate wlength sorted hg.1 hg.2, fun hn => ?_, fun hn => ?_, whole.keeps.relight⟩
  · refine taken.cell_kept (by decide) (by decide) (by decide) (taken.step.notAborted fun g c => ?_)
    exact hn g ((taken.stops g).mp c)
  · refine taken.cell_kept (by decide) (by decide) (by decide) (taken.step.notLate fun g c => ?_)
    exact hn g ((taken.late g).mp c)

end Sys2Proof.Machine

namespace Sys2Proof.Machine

/-! ## A BEACON received (R57 to R63) -/

/-! ### The pairs of a list (R57) -/

theorem firstPairs_distinct (l : List (Nat × Phase)) : (firstPairs l).Pairwise (fun p q => p.1 ≠ q.1) := by
  induction l with
  | nil => exact List.Pairwise.nil
  | cons c cs ih =>
    refine List.pairwise_cons.mpr ⟨fun d hd => ?_, ih.filter _⟩
    exact Ne.symm (of_decide_eq_true (List.mem_filter.mp hd).2)

/-- The phase that a list names for an entry's group. -/
def listedPhase (pairs : List (Nat × Phase)) (e : Entry) : Option Phase :=
  (pairs.find? (fun p => decide (p.1 = e.group))).map Prod.snd

/-- R57, step 1: an entry of `x` that the list does not name. -/
def leavesView (x : Nat) (pairs : List (Nat × Phase)) (e : Entry) : Bool := decide (e.station = x ∧ listedPhase pairs e = none)

theorem leavesView_eq (x : Nat) (pairs : List (Nat × Phase)) : leavesView x pairs = unlisted x pairs := funext fun e => by
  have named : listedPhase pairs e = none ↔ (pairs.any (fun p => decide (p.1 = e.group))) = false := by
    rw [listedPhase, Option.map_eq_none_iff, List.find?_eq_none, List.any_eq_false]
  unfold leavesView unlisted
  rw [Bool.eq_iff_iff, decide_eq_true_iff, Bool.and_eq_true, decide_eq_true_iff, Bool.not_eq_true', named]

/-! ### The entries confirmed (R57, step 2) -/

/-- R57, step 2: an entry of `x` with the phase the list names. -/
def confirmedEntry (x : Nat) (pairs : List (Nat × Phase)) (e : Entry) : Entry :=
  if e.station = x then
    let phase := (listedPhase pairs e).getD e.phase
    { e with phase := phase, age := 0, rechargeEnded := e.rechargeEnded && decide (phase = .recovering) }
  else e

theorem confirmPairs_eq (x : Nat) (pairs : List (Nat × Phase)) (distinct : pairs.Pairwise (fun p q => p.1 ≠ q.1)) (l : List Entry) :
    pairs.foldl (confirmPair x) l = l.map (fun e => if e.station = x ∧ listedPhase pairs e ≠ none then confirmedEntry x pairs e else e) := by
  induction pairs generalizing l with
  | nil =>
    refine (List.map_id l).symm.trans (List.map_congr_left fun e _ => ?_)
    rw [if_neg (by simp [listedPhase])]
    rfl
  | cons p ps ih =>
    obtain ⟨hp, hps⟩ := List.pairwise_cons.mp distinct
    rw [List.foldl_cons, ih hps, confirmPair, List.map_map]
    refine List.map_congr_left fun e _ => ?_
    simp only [Function.comp, Entry.hasKey, decide_eq_true_iff]
    by_cases hs : e.station = x
    · by_cases hg : p.1 = e.group
      · have unnamed : listedPhase ps e = none := by
          rw [listedPhase, Option.map_eq_none_iff, List.find?_eq_none]
          exact fun q hq c => hp q hq (hg.trans (of_decide_eq_true c).symm)
        have named : listedPhase (p :: ps) e = some p.2 := by simp [listedPhase, hg]
        rw [if_pos (show e.station = x ∧ e.group = p.1 from ⟨hs, hg.symm⟩), if_neg fun c => c.2 unnamed,
          if_pos ⟨hs, by rw [named]; nofun⟩, confirmedEntry, if_pos hs, named]
        rfl
      · have same : listedPhase (p :: ps) e = listedPhase ps e := by simp [listedPhase, hg]
        rw [if_neg (fun c : e.station = x ∧ e.group = p.1 => hg c.2.symm), confirmedEntry, confirmedEntry, same]
    · rw [if_neg (fun c : e.station = x ∧ e.group = p.1 => hs c.1), if_neg (fun c => hs c.1), if_neg (fun c => hs c.1)]

/-- R57: of the entries kept, those of `x` are all named. -/
theorem confirmPairs_kept (x : Nat) (pairs : List (Nat × Phase)) (distinct : pairs.Pairwise (fun p q => p.1 ≠ q.1))
    (l : List Entry) :
    pairs.foldl (confirmPair x) (l.filter (fun e => !leavesView x pairs e)) =
      (l.filter (fun e => !leavesView x pairs e)).map (confirmedEntry x pairs) := by
  rw [confirmPairs_eq x pairs distinct]
  refine List.map_congr_left fun e he => ?_
  have kept := (List.mem_filter.mp he).2
  rw [leavesView, Bool.not_eq_true', decide_eq_false_iff_not] at kept
  by_cases hs : e.station = x
  · rw [if_pos ⟨hs, fun c => kept ⟨hs, c⟩⟩]
  · rw [if_neg (fun c => hs c.1), confirmedEntry, if_neg hs]

/-! ### The placeholders stored (R59) -/

/-- R53, R59: claims that found the view full, one after another. -/
def viewFulls (l : List (Nat × Phase)) (s : State) : State := l.foldl (fun t p => viewFull p.1 t) s

theorem viewFulls_viewed (l : List (Nat × Phase)) (s : State) : Viewed s (viewFulls l s) := by
  unfold viewFulls
  induction l generalizing s with
  | nil => exact .refl s
  | cons p ps ih => exact (viewFull_viewed p.1 s).trans (ih _)

theorem viewFull_view (g : Nat) (s : State) : (viewFull g s).view = s.view := rfl

theorem viewFulls_view (l : List (Nat × Phase)) (s : State) : (viewFulls l s).view = s.view := by
  unfold viewFulls
  induction l generalizing s with
  | nil => rfl
  | cons p ps ih => exact ih _

theorem viewFulls_setView (l : List (Nat × Phase)) (v : List Entry) (s : State) :
    viewFulls l (s.setView v) = (viewFulls l s).setView v := by
  unfold viewFulls
  induction l generalizing s with
  | nil => rfl
  | cons p ps ih => exact ih (viewFull p.1 s)

theorem viewFull_grow (g : Nat) (s : State) : EventsGrow s (viewFull g s) :=
  (raise_grow .peerViewFull (groupDetail g) s).trans (.of_kept (.of_events rfl))

theorem viewFulls_grow (l : List (Nat × Phase)) (s : State) : EventsGrow s (viewFulls l s) := by
  unfold viewFulls
  exact EventsGrow.foldl (fun t (p : Nat × Phase) => viewFull_grow p.1 t) l s

/-- R59, R61: the last of the claims that found the view full starts the hold and has its PEER_VIEW_FULL. -/
theorem viewFulls_last {l before : List (Nat × Phase)} {p : Nat × Phase} (h : l = before ++ [p]) (s : State) :
    (viewFulls l s).overflow = some 300 ∧
      (s.events.cells.length = 26 → Occurs .peerViewFull (groupDetail p.1) s (viewFulls l s)) := by
  have whole : viewFulls l s = viewFull p.1 (viewFulls before s) := by
    rw [h, viewFulls, List.foldl_append]
    rfl
  rw [whole]
  refine ⟨rfl, fun hl => ?_⟩
  have length := (viewFulls_viewed before s).passes.length.trans hl
  have occurs := raise_occurs .peerViewFull (groupDetail p.1) (viewFulls before s) (by rw [length]; decide) (by decide)
  exact occurs.after_growth (by decide) (viewFulls_grow before s)

/-- R59: the pairs whose key no entry has are stored in order while there is room, and the others find the view full. -/
theorem addPlaceholders_eq (x : Nat) (pairs : List (Nat × Phase)) (distinct : pairs.Pairwise (fun p q => p.1 ≠ q.1)) (s : State) :
    let new := pairs.filter (fun p => !s.view.any (fun e => e.hasKey x p.1))
    let room := 48 - s.view.length
    pairs.foldl (addPlaceholder x) s =
      viewFulls (new.drop room) (s.setView (s.view ++ (new.take room).map (s.placeholder x))) := by
  induction pairs generalizing s with
  | nil =>
    simp only [List.filter_nil, List.drop_nil, List.take_nil, List.map_nil, List.append_nil]
    rfl
  | cons p ps ih =>
    obtain ⟨hp, hps⟩ := List.pairwise_cons.mp distinct
    intro new room
    rw [List.foldl_cons]
    by_cases held : s.view.any (fun e => e.hasKey x p.1) = true
    · have step : addPlaceholder x s p = s := if_pos held
      have same : new = ps.filter (fun p => !s.view.any (fun e => e.hasKey x p.1)) := by
        simp only [new, List.filter_cons, held]
        rfl
      rw [step, same]
      exact ih hps s
    · have fresh : new = p :: ps.filter (fun p => !s.view.any (fun e => e.hasKey x p.1)) := by
        simp only [new, List.filter_cons, Bool.eq_false_of_not_eq_true held]
        rfl
      rw [fresh]
      by_cases hr : s.view.length < 48
      · have step : addPlaceholder x s p = s.setView (s.view ++ [s.placeholder x p]) :=
          (if_neg held).trans (if_pos (show s.view.length < viewLimit from hr))
        have others : (ps.filter fun q => !(s.view ++ [s.placeholder x p]).any (fun e => e.hasKey x q.1)) =
            ps.filter (fun q => !s.view.any (fun e => e.hasKey x q.1)) := by
          refine List.filter_congr fun q hq => ?_
          have other : (s.placeholder x p).hasKey x q.1 = false := decide_eq_false fun c => hp q hq c.2
          rw [List.any_append, List.any_cons, other]
          simp
        have roomSucc : room = (48 - (s.view ++ [s.placeholder x p]).length) + 1 := by
          simp only [room, List.length_append, List.length_singleton]
          omega
        have rest := ih hps (s.setView (s.view ++ [s.placeholder x p]))
        simp only [show (s.setView (s.view ++ [s.placeholder x p])).view = s.view ++ [s.placeholder x p] from rfl, others] at rest
        rw [List.append_assoc] at rest
        rw [step, rest, roomSucc, List.drop_succ_cons, List.take_succ_cons, List.map_cons]
        rfl
      · have step : addPlaceholder x s p = viewFull p.1 s :=
          (if_neg held).trans (if_neg (show ¬ s.view.length < viewLimit from hr))
        have roomZero : room = 0 := by
          simp only [room]
          omega
        have zero : 48 - s.view.length = 0 := roomZero
        have rest := ih hps (viewFull p.1 s)
        simp only [viewFull_view, zero, List.drop_zero, List.take_zero, List.map_nil, List.append_nil] at rest
        rw [step, rest, roomZero]
        simp only [List.drop_zero, List.take_zero, List.map_nil, List.append_nil]
        rfl

/-! ### The weights of the placeholders (R58) -/

/-- An entry with its weight left out. -/
def Entry.unweighted (e : Entry) : Entry := { e with weight := 0 }

theorem sharePlaceholders_unweighted (x share extra : Nat) (l : List Entry) :
    (sharePlaceholders x share extra l).map Entry.unweighted = l.map Entry.unweighted := by
  induction l generalizing extra with
  | nil => rfl
  | cons e es ih =>
    unfold sharePlaceholders
    split
    · rw [List.map_cons, List.map_cons, ih]
      rfl
    · rw [List.map_cons, List.map_cons, ih]

theorem reweigh_unweighted (x weight : Nat) (l : List Entry) :
    (reweigh x weight l).map Entry.unweighted = l.map Entry.unweighted := sharePlaceholders_unweighted _ _ _ _

theorem reweigh_mem {x weight : Nat} {l : List Entry} {e : Entry} (h : e ∈ l) :
    ∃ f ∈ reweigh x weight l, f.unweighted = e.unweighted := by
  have : e.unweighted ∈ (reweigh x weight l).map Entry.unweighted := by
    rw [reweigh_unweighted]
    exact List.mem_map_of_mem h
  obtain ⟨f, hf, he⟩ := List.mem_map.mp this
  exact ⟨f, hf, he⟩

/-- R58: the shares do not change which entry a key finds, but for its weight. -/
theorem reweigh_find (x weight station group : Nat) (l : List Entry) :
    ((reweigh x weight l).find? (fun e => e.hasKey station group)).map Entry.unweighted =
      (l.find? (fun e => e.hasKey station group)).map Entry.unweighted := by
  have key : ∀ l : List Entry, (l.find? (fun e => e.hasKey station group)).map Entry.unweighted =
      (l.map Entry.unweighted).find? (fun e => e.hasKey station group) := fun l => by
    rw [List.find?_map]
    rfl
  rw [key, key, reweigh_unweighted]

end Sys2Proof.Machine

namespace Sys2Proof.Machine

/-! ## A BEACON taken whole (R57 to R63, R122) -/

section
variable (x : Nat) (pairs : List (Nat × Phase)) (s : State)

/-- The entry that a pair's key finds. -/
def heldOf (p : Nat × Phase) : Option Entry := s.view.find? (fun e => e.hasKey x p.1)

/-- R57: the entries that stay. -/
def keptOf : List Entry := s.view.filter (fun e => !leavesView x pairs e)

/-- R57, step 3: the pairs whose key no entry has. -/
def newOf : List (Nat × Phase) := pairs.filter (fun p => (heldOf x s p).isNone)

/-- R59: the pairs that the view has room for. -/
def storedOf : List (Nat × Phase) := (newOf x pairs s).take (48 - (keptOf x pairs s).length)

/-- R53, R59: the pairs that find the view full. -/
def unstoredOf : List (Nat × Phase) := (newOf x pairs s).drop (48 - (keptOf x pairs s).length)

/-- R57 to R59: the view as the list has it, before its weights are shared. -/
def listedView : List Entry :=
  (keptOf x pairs s).map (confirmedEntry x pairs) ++ (storedOf x pairs s).map (s.placeholder x)

/-- R63: what is judged of a pair whose entry was held before. -/
def heldReport (p : Nat × Phase) : Option Judged :=
  (heldOf x s p).map fun e =>
    { station := x, group := p.1, phase := p.2, urgency := e.full.map FullClaim.urgency, mask := e.mask,
      previous := some e.phase }

/-- R63: what is judged of a placeholder newly stored. -/
def newReport (p : Nat × Phase) : Judged :=
  { station := x, group := p.1, phase := p.2, urgency := none, mask := s.usedGroups, previous := none }

/-- R63: the reports of a BEACON, in order. -/
def beaconReports : List Judged :=
  pairs.filterMap (heldReport x s) ++ (storedOf x pairs s).map (newReport x s)

/-- The state with the BEACON's list in the view. -/
def withList (weight : Nat) : State :=
  viewFulls (unstoredOf x pairs s) (s.setView (reweigh x weight (listedView x pairs s)))

end

variable {x : Nat} {pairs : List (Nat × Phase)} {s : State}

theorem confirmedEntry_hasKey (e : Entry) (station group : Nat) :
    (confirmedEntry x pairs e).hasKey station group = e.hasKey station group := by
  unfold confirmedEntry
  split <;> rfl

/-- A pair's key finds the same entry in the view and in what the list leaves of it. -/
theorem kept_find {p : Nat × Phase} (hp : p ∈ pairs) :
    (keptOf x pairs s).find? (fun e => e.hasKey x p.1) = heldOf x s p := by
  unfold keptOf heldOf
  rw [List.find?_filter]
  refine congrArg (fun f => List.find? f s.view) (funext fun e => ?_)
  by_cases hk : e.hasKey x p.1 = true
  · have stays : leavesView x pairs e = false := by
      refine decide_eq_false fun c => ?_
      have named := c.2
      rw [listedPhase, Option.map_eq_none_iff, List.find?_eq_none] at named
      exact named p hp (decide_eq_true (of_decide_eq_true hk).2.symm)
    simp [hk, stays]
  · simp [hk]

theorem confirmed_any {p : Nat × Phase} (hp : p ∈ pairs) :
    ((keptOf x pairs s).map (confirmedEntry x pairs)).any (fun e => e.hasKey x p.1) = (heldOf x s p).isSome := by
  rw [← kept_find hp, List.any_map, Bool.eq_iff_iff, List.any_eq_true, List.find?_isSome]
  simp only [Function.comp, confirmedEntry_hasKey]

/-- R57 to R59: what the reconciliation makes of the view before the weights are shared. -/
theorem listed_eq (distinct : pairs.Pairwise (fun p q => p.1 ≠ q.1)) :
    pairs.foldl (addPlaceholder x)
        (s.setView (pairs.foldl (confirmPair x) (s.view.filter (fun e => !unlisted x pairs e)))) =
      viewFulls (unstoredOf x pairs s) (s.setView (listedView x pairs s)) := by
  have confirmed : pairs.foldl (confirmPair x) (s.view.filter (fun e => !unlisted x pairs e)) =
      (keptOf x pairs s).map (confirmedEntry x pairs) := by
    rw [← leavesView_eq]
    exact confirmPairs_kept x pairs distinct s.view
  have new : (pairs.filter fun p => !((keptOf x pairs s).map (confirmedEntry x pairs)).any (fun e => e.hasKey x p.1)) =
      newOf x pairs s := by
    refine List.filter_congr fun p hp => ?_
    rw [confirmed_any hp]
    cases heldOf x s p <;> rfl
  rw [confirmed, addPlaceholders_eq x pairs distinct]
  simp only [show (s.setView ((keptOf x pairs s).map (confirmedEntry x pairs))).view =
    (keptOf x pairs s).map (confirmedEntry x pairs) from rfl, new, List.length_map]
  rfl

/-! ### The reports (R63) -/

theorem Entry.judged_unweighted (e : Entry) (previous : Option Phase) : e.unweighted.judged previous = e.judged previous := rfl

/-- In a list whose pairs name different groups a group finds its own pair. -/
theorem distinct_find {l : List (Nat × Phase)} (distinct : l.Pairwise (fun p q => p.1 ≠ q.1)) {p : Nat × Phase} (hp : p ∈ l) :
    l.find? (fun q => decide (q.1 = p.1)) = some p := by
  obtain ⟨before, after, rfl⟩ := List.append_of_mem hp
  have cross := (List.pairwise_append.mp distinct).2.2
  have none : before.find? (fun q => decide (q.1 = p.1)) = none := List.find?_eq_none.mpr fun q hq c =>
    cross q hq p List.mem_cons_self (of_decide_eq_true c)
  rw [List.find?_append, none]
  simp

/-- The pairs of a list that a sublist of it holds are that sublist. -/
theorem filter_mem_sublist {l m : List (Nat × Phase)} (sub : l.Sublist m) (nodup : m.Nodup) :
    m.filter (fun a => decide (a ∈ l)) = l := by
  induction sub with
  | slnil => rfl
  | cons a sub ih =>
    obtain ⟨ha, hn⟩ := List.nodup_cons.mp nodup
    rw [List.filter_cons_of_neg (by simpa using fun h => ha (sub.subset h)), ih hn]
  | cons_cons a sub ih =>
    rename_i l m
    obtain ⟨ha, hn⟩ := List.nodup_cons.mp nodup
    rw [List.filter_cons_of_pos (by simp)]
    refine congrArg (a :: ·) ((List.filter_congr fun b hb => ?_).trans (ih hn))
    have ne : b ≠ a := fun e => ha (e ▸ hb)
    simp [ne]

theorem listed_find {p : Nat × Phase} (distinct : pairs.Pairwise (fun p q => p.1 ≠ q.1)) (hp : p ∈ pairs) :
    (∀ e, heldOf x s p = some e →
      (listedView x pairs s).find? (fun e => e.hasKey x p.1) = some (confirmedEntry x pairs e)) ∧
    (heldOf x s p = none →
      (listedView x pairs s).find? (fun e => e.hasKey x p.1) = if p ∈ storedOf x pairs s then some (s.placeholder x p) else none) := by
  have first : ((keptOf x pairs s).map (confirmedEntry x pairs)).find? (fun e => e.hasKey x p.1) =
      (heldOf x s p).map (confirmedEntry x pairs) := by
    rw [List.find?_map, ← kept_find hp]
    exact congrArg (fun f => Option.map (confirmedEntry x pairs) (List.find? f (keptOf x pairs s)))
      (funext fun e => confirmedEntry_hasKey e x p.1)
  have whole : (listedView x pairs s).find? (fun e => e.hasKey x p.1) =
      ((heldOf x s p).map (confirmedEntry x pairs)).or
        (((storedOf x pairs s).map (s.placeholder x)).find? (fun e => e.hasKey x p.1)) := by
    rw [listedView, List.find?_append, first]
  refine ⟨fun e he => by rw [whole, he]; rfl, fun hn => ?_⟩
  rw [whole, hn, List.find?_map]
  have sub : (storedOf x pairs s).Sublist pairs := (List.take_sublist _ _).trans List.filter_sublist
  have key : (fun q => (s.placeholder x q).hasKey x p.1) = fun q : Nat × Phase => decide (q.1 = p.1) := funext fun q => by
    simp [Entry.hasKey, State.placeholder]
  show Option.map (s.placeholder x) ((storedOf x pairs s).find? (fun q => (s.placeholder x q).hasKey x p.1)) = _
  rw [key]
  split
  · rename_i hm
    rw [distinct_find (distinct.sublist sub) hm]
    rfl
  · rename_i hm
    have none : (storedOf x pairs s).find? (fun q => decide (q.1 = p.1)) = none := List.find?_eq_none.mpr fun q hq c => by
      have same : ¬ q ≠ p := fun ne => by
        have sym : Std.Symm fun p q : Nat × Phase => p.1 ≠ q.1 := ⟨fun _ _ h => h.symm⟩
        exact distinct.forall (sub.subset hq) hp ne (of_decide_eq_true c)
      exact hm (not_not.mp same ▸ hq)
    rw [none]
    rfl

/-- R63: the model's reports are those of the list. -/
theorem reconcileReports_eq (weight : Nat) (distinct : pairs.Pairwise (fun p q => p.1 ≠ q.1)) :
    reconcileReports x pairs s.view (reweigh x weight (listedView x pairs s)) = beaconReports x pairs s := by
  have after : ∀ p, (((reweigh x weight (listedView x pairs s)).find? (fun e => e.hasKey x p)).map Entry.unweighted) =
      ((listedView x pairs s).find? (fun e => e.hasKey x p)).map Entry.unweighted := fun p => reweigh_find x weight x p _
  have judged : ∀ (e f : Entry) (q : Option Phase), e.unweighted = f.unweighted → e.judged q = f.judged q := fun e f q h => by
    rw [← e.judged_unweighted, h, f.judged_unweighted]
  unfold reconcileReports beaconReports
  congr 1
  · refine List.filterMap_congr fun p hp => ?_
    obtain ⟨held, -⟩ := listed_find (s := s) (x := x) distinct hp
    have found := after p.1
    unfold heldReport
    cases h : heldOf x s p with
    | none =>
      have h' : s.view.find? (fun e => e.hasKey x p.1) = none := h
      simp only [h', Option.map_none]
    | some old =>
      have h' : s.view.find? (fun e => e.hasKey x p.1) = some old := h
      rw [held old h] at found
      obtain ⟨e, he, same⟩ := Option.map_eq_some_iff.mp found
      obtain ⟨oldStation, oldGroup⟩ : old.station = x ∧ old.group = p.1 := of_decide_eq_true (List.find?_some (p := fun e : Entry => e.hasKey x p.1) h')
      have named : listedPhase pairs old = some p.2 := by
        rw [listedPhase, oldGroup, distinct_find distinct hp]
        rfl
      simp only [h', he, Option.map_some]
      rw [judged e (confirmedEntry x pairs old) _ same, confirmedEntry, if_pos oldStation, named]
      simp only [Entry.judged, oldStation, oldGroup, Option.getD_some]
  · have stored : (storedOf x pairs s) = pairs.filter (fun p => decide (p ∈ storedOf x pairs s)) :=
      (filter_mem_sublist ((List.take_sublist _ _).trans List.filter_sublist)
        (distinct.imp fun h e => h (congrArg Prod.fst e))).symm
    rw [stored, ← List.filterMap_eq_map, List.filterMap_filter]
    refine List.filterMap_congr fun p hp => ?_
    obtain ⟨-, fresh⟩ := listed_find (s := s) (x := x) distinct hp
    have found := after p.1
    cases h : heldOf x s p with
    | some old =>
      have h' : s.view.find? (fun e => e.hasKey x p.1) = some old := h
      have unstored : p ∉ storedOf x pairs s := fun m => by
        have new := (List.mem_filter.mp (List.mem_of_mem_take m)).2
        rw [h] at new
        cases new
      simp only [h', unstored]
      simp
    | none =>
      have h' : s.view.find? (fun e => e.hasKey x p.1) = none := h
      rw [fresh h] at found
      by_cases m : p ∈ storedOf x pairs s
      · rw [if_pos m] at found
        obtain ⟨e, he, same⟩ := Option.map_eq_some_iff.mp found
        simp only [h', he, m, decide_true]
        exact congrArg some (judged e (s.placeholder x p) none same)
      · rw [if_neg m] at found
        have he := Option.map_eq_none_iff.mp found
        simp only [h', he, m, decide_false]
        simp

/-! ### The load steps and the judgements, one after another -/

/-- R63: an entry's removal calls for the load steps, over the view as it is. -/
theorem loadSteps_for {α : Type} (l : List α) {v : List Entry} {u : State} (h : u.view = v) :
    LoadStepsFor (l.map fun _ => v) u (l.foldl (fun w _ => loadSteps w) u) := by
  induction l generalizing u with
  | nil => exact Keeps.refl _ u
  | cons a as ih =>
    subst h
    have view : (loadSteps u).view = u.view := (loadSteps_passes u).keeps .view (by decide)
    exact ⟨loadSteps u, loadSteps_spec u, ih view⟩

/-- R35, R63: reports judged one after another, each with its load steps. -/
theorem judges_for (js : List Judged) (s : State) : JudgedFor js s (js.foldl (fun w j => judge j w) s) := by
  induction js generalizing s with
  | nil => exact Keeps.refl _ s
  | cons j js ih => exact ⟨_, _, judgeStep j s, loadSteps_spec _, ih _⟩

/-- The parts that judgements and their load steps can touch. -/
def judgeParts : List Part := [.groups, .lums, .mem, .line, .events, .service, .overrun]

theorem loadSteps_passes_judge (s : State) :
    Passes judgeParts [.loadOver, .testAborted, .conflictLate, .recordCrcError] (fun _ => True) s (loadSteps s) :=
  (loadSteps_passes s).mono (by decide) (by decide) fun _ _ => trivial

theorem judge_passes (j : Judged) (s : State) :
    Passes judgeParts [.loadOver, .testAborted, .conflictLate, .recordCrcError] (fun _ => True) s (judge j s) :=
  ((judges_passes j j.mask s).mono (by decide) (by decide) fun _ _ => trivial).trans (loadSteps_passes_judge _)

/-! ### The BEACON, whole -/

theorem adoptTime_keeps (b : BeaconFrame) (s : State) : Keeps [.calendar] s (adoptTime b s) := by
  unfold adoptTime
  split
  · intro p h
    cases p <;> first | rfl | simp at h
  · exact Keeps.refl _ s

theorem exec_beaconReceived {s : State} {src dst : Byte} {payload : List Byte} {ms : Nat} {b : BeaconFrame}
    (h : s.HearsPeer src dst) (hb : BeaconFrame.read payload = some b) :
    exec (.beaconReceived src dst payload ms) s =
      .next (relight s (adoptTime b (takeBeacon src.toNat b (heard (s.atMs ms))))) := by
  show execBeaconReceived src dst payload ms s = _
  unfold execBeaconReceived
  rw [live_powered _ h.hears.powered, deliverProtocol_heard h, hb]

/-- The chain of R57 and R63 over the state `v` that the supervisor leaves. -/
structure Reconciled (x : Nat) (b : BeaconFrame) (v a r u : State) : Prop where
  removed : LoadStepsFor ((v.view.filter (leavesView x (firstPairs b.claims))).map
      fun _ => reweigh x b.weight (listedView x (firstPairs b.claims) v))
    (withList x (firstPairs b.claims) v b.weight) a
  judged : JudgedFor (beaconReports x (firstPairs b.claims) v) a r
  unchanged : reweigh x b.weight (listedView x (firstPairs b.claims) v) = listedView x (firstPairs b.claims) v → Keeps [] r u
  reweighed : reweigh x b.weight (listedView x (firstPairs b.claims) v) ≠ listedView x (firstPairs b.claims) v → LoadSteps r u
  passes : Passes judgeParts [.loadOver, .testAborted, .conflictLate, .recordCrcError] (fun _ => True)
    (withList x (firstPairs b.claims) v b.weight) u

theorem withList_eq (x : Nat) (pairs : List (Nat × Phase)) (s : State) (weight : Nat) :
    (viewFulls (unstoredOf x pairs s) (s.setView (listedView x pairs s))).setView (reweigh x weight (listedView x pairs s)) =
      withList x pairs s weight := (viewFulls_setView _ _ _).symm

theorem withList_view (x : Nat) (pairs : List (Nat × Phase)) (s : State) (weight : Nat) :
    (withList x pairs s weight).view = reweigh x weight (listedView x pairs s) := viewFulls_view _ _

theorem takeBeacon_reconciled (x : Nat) (b : BeaconFrame) (v : State) : ∃ a r, Reconciled x b v a r (takeBeacon x b v) := by
  have distinct := firstPairs_distinct b.claims
  let l := listedView x (firstPairs b.claims) v
  let w := withList x (firstPairs b.claims) v b.weight
  let a := (v.view.filter (leavesView x (firstPairs b.claims))).foldl (fun w _ => loadSteps w) w
  let r := (beaconReports x (firstPairs b.claims) v).foldl (fun w j => judge j w) a
  have whole : takeBeacon x b v = if l = reweigh x b.weight l then r else loadSteps r := by
    unfold takeBeacon
    simp only [listed_eq distinct, viewFulls_view, show ∀ (s : State) (e : List Entry), (s.setView e).view = e from fun _ _ => rfl,
      withList_eq, withList_view]
    rw [reconcileReports_eq b.weight distinct, ← leavesView_eq]
  have passes : Passes judgeParts [.loadOver, .testAborted, .conflictLate, .recordCrcError] (fun _ => True) w r :=
    (Passes.foldl _ (fun s _ _ => loadSteps_passes_judge s) w).trans (Passes.foldl _ (fun s j _ => judge_passes j s) a)
  refine ⟨a, r, loadSteps_for _ (withList_view _ _ _ _), judges_for _ _, fun e => ?_, fun e => ?_, ?_⟩
  · rw [whole, if_pos e.symm]
    exact Keeps.refl _ r
  · rw [whole, if_neg fun c => e c.symm]
    exact loadSteps_spec r
  · rw [whole]
    split
    · exact passes
    · exact passes.trans (loadSteps_passes_judge r)

theorem listedView_congr {x : Nat} {pairs : List (Nat × Phase)} {s v : State} (view : v.view = s.view)
    (used : v.usedGroups = s.usedGroups) :
    listedView x pairs v = listedView x pairs s ∧ unstoredOf x pairs v = unstoredOf x pairs s ∧
      beaconReports x pairs v = beaconReports x pairs s := by
  have held : heldOf x v = heldOf x s := funext fun p => by rw [heldOf, heldOf, view]
  have kept : keptOf x pairs v = keptOf x pairs s := by rw [keptOf, keptOf, view]
  have new : newOf x pairs v = newOf x pairs s := by rw [newOf, newOf, held]
  have stored : storedOf x pairs v = storedOf x pairs s := by rw [storedOf, storedOf, new, kept]
  have placeholder : v.placeholder x = s.placeholder x := funext fun p => by rw [State.placeholder, State.placeholder, used]
  refine ⟨by rw [listedView, listedView, kept, stored, placeholder], by rw [unstoredOf, unstoredOf, new, kept], ?_⟩
  have heldReports : heldReport x v = heldReport x s := funext fun p => by rw [heldReport, heldReport, held]
  have newReports : newReport x v = newReport x s := funext fun p => by rw [newReport, newReport, used]
  rw [beaconReports, beaconReports, heldReports, newReports, stored]

/-- R131, R57: what a BEACON from another station makes of `s`, step after step. -/
theorem beacon_taken {s : State} {src dst : Byte} {payload : List Byte} {ms : Nat} {b : BeaconFrame}
    (h : s.HearsPeer src dst) (hb : BeaconFrame.read payload = some b) :
    let pairs := firstPairs b.claims
    let listed := listedView src.toNat pairs s
    let view := reweigh src.toNat b.weight listed
    ∃ w a r u, exec (.beaconReceived src dst payload ms) s = .next (relight s (adoptTime b u)) ∧ u.view = view ∧
      (unstoredOf src.toNat pairs s = [] → u.overflow = s.overflow ∧
        u.events.cell Event.peerViewFull.number = s.events.cell Event.peerViewFull.number) ∧
      (∀ before p, unstoredOf src.toNat pairs s = before ++ [p] → u.overflow = some 300 ∧
        (s.events.cells.length = 26 → Occurs .peerViewFull (groupDetail p.1) s u)) ∧
      Delivered (s.atMs ms) w ∧ w.view = view ∧ w.overflow = u.overflow ∧
      LoadStepsFor ((s.view.filter (leavesView src.toNat pairs)).map fun _ => view) w a ∧
      JudgedFor (beaconReports src.toNat pairs s) a r ∧ (view = listed → Keeps [] r u) ∧ (view ≠ listed → LoadSteps r u) ∧
      u.sup.silence = some (s.figures.silence * 60) ∧ Passes reportParts reportEvents (fun _ => True) (s.atMs ms) u := by
  intro pairs listed view
  have passes := heard_passes (s.atMs ms)
  have sup := heard_sup (s := s.atMs ms) h.mode
  have delivered := heard_delivered (s := s.atMs ms) h.mode
  have used := (heard_thinned (s.atMs ms)).usedGroups
  have exec_eq := exec_beaconReceived (ms := ms) h hb
  generalize heard (s.atMs ms) = v at *
  have sameView : v.view = s.view := passes.keeps .view (by decide)
  obtain ⟨sameListed, sameUnstored, sameReports⟩ := listedView_congr (x := src.toNat) (pairs := pairs) sameView used
  obtain ⟨a, r, removed, judged, unchanged, reweighed, judgePasses⟩ := takeBeacon_reconciled src.toNat b v
  rw [sameListed, sameView] at removed
  rw [sameReports] at judged
  rw [sameListed] at unchanged reweighed
  let w := withList src.toNat pairs v b.weight
  let u := takeBeacon src.toNat b v
  have viewed : Viewed v w := (Viewed.setView v _).trans (viewFulls_viewed _ _)
  have wview : w.view = view := (withList_view _ _ _ _).trans (congrArg _ sameListed)
  have uview : u.view = w.view := judgePasses.keeps .view (by decide)
  have uoverflow : u.overflow = w.overflow := judgePasses.keeps .overflow (by decide)
  have ucell : u.events.cell Event.peerViewFull.number = w.events.cell Event.peerViewFull.number :=
    judgePasses.events.2 .peerViewFull (by decide) (by decide)
  have vcell : v.events.cell Event.peerViewFull.number = s.events.cell Event.peerViewFull.number :=
    passes.events.2 .peerViewFull (by decide) (by decide)
  have heardPart := passes.mono (qs := reportParts) (fs := reportEvents) (more := fun _ => True) (by decide) (by decide)
    fun _ _ => trivial
  have viewPart := heardPart.trans (viewed.passes.mono (by decide) (by decide) fun _ _ => trivial)
  have whole := viewPart.trans (judgePasses.mono (by decide) (by decide) fun _ h => h)
  have usup : u.sup = v.sup := (judgePasses.keeps .sup (by decide)).trans (viewed.passes.keeps .sup (by decide))
  refine ⟨w, a, r, u, exec_eq, uview.trans wview, fun none => ?_, fun before p full => ?_,
    delivered.viewed viewed viewPart.service, wview, uoverflow.symm, removed, judged, unchanged, reweighed,
    (congrArg Supervisor.silence usup).trans sup.1, whole⟩
  · rw [← sameUnstored] at none
    have same : w = v.setView (reweigh src.toNat b.weight (listedView src.toNat pairs v)) := by
      show viewFulls (unstoredOf src.toNat pairs v) _ = _
      rw [none]
      rfl
    rw [uoverflow, ucell, same]
    exact ⟨passes.keeps .overflow (by decide), vcell⟩
  · rw [← sameUnstored] at full
    obtain ⟨overflow, occurs⟩ := viewFulls_last full (v.setView (reweigh src.toNat b.weight (listedView src.toNat pairs v)))
    refine ⟨uoverflow.trans overflow, fun hl => Occurs.of_cell ?_ ucell⟩
    have occurs := occurs (passes.length.trans hl)
    unfold Occurs at occurs ⊢
    rw [show (v.setView (reweigh src.toNat b.weight (listedView src.toNat pairs v))).events = v.events from rfl, vcell] at occurs
    exact occurs

theorem adoptTime_adopts {b : BeaconFrame} {s : State} (h1 : s.calendar.valid = false) (h2 : b.valid = true)
    (h3 : b.minutes ≠ 0xFFFFFFFF) :
    (adoptTime b s).calendar = { s.calendar with minutes := b.minutes, seconds := 0, valid := true } := by
  unfold adoptTime
  rw [if_pos ⟨h1, h2, h3⟩]

theorem adoptTime_declines {b : BeaconFrame} {s : State}
    (h : s.calendar.valid = true ∨ b.valid = false ∨ b.minutes = 0xFFFFFFFF) : (adoptTime b s).calendar = s.calendar := by
  unfold adoptTime
  rw [if_neg]
  rintro ⟨h1, h2, h3⟩
  rcases h with h | h | h
  · exact nomatch h1.symm.trans h
  · exact nomatch h2.symm.trans h
  · exact h3 h

/-- R59: a placeholder newly stored stands in the view with its share. -/
theorem stored_mem {x weight : Nat} {pairs : List (Nat × Phase)} {s : State} {p : Nat × Phase} (hp : p ∈ storedOf x pairs s) :
    ∃ e ∈ reweigh x weight (listedView x pairs s), e.station = x ∧ e.group = p.1 ∧ e.phase = p.2 ∧ e.full = none ∧
      e.mask = s.usedGroups := by
  obtain ⟨e, he, same⟩ := reweigh_mem (x := x) (weight := weight)
    (show s.placeholder x p ∈ listedView x pairs s from List.mem_append_right _ (List.mem_map_of_mem hp))
  exact ⟨e, he, congrArg Entry.station same, congrArg Entry.group same, congrArg Entry.phase same, congrArg Entry.full same,
    congrArg Entry.mask same⟩

/-- Settles O43. -/
theorem beaconIsReconciledWhole : Obligations.BeaconIsReconciledWhole := by
  refine ⟨readsBeacon, fun s src dst payload ms b h hb => ?_⟩
  intro x pairs listed leaves held kept new room placeholder confirmed v reports
  obtain ⟨w, a, r, u, exec_eq, uview, stored, unstored, delivered, wview, woverflow, removed, judged, unchanged, reweighed,
    silence, passes⟩ := beacon_taken (ms := ms) h hb
  have adopts := adoptTime_keeps b u
  have calendar : u.calendar = s.calendar := passes.keeps .calendar (by decide)
  have events : (adoptTime b u).events = u.events := adopts .events (by decide)
  have overflow : (adoptTime b u).overflow = u.overflow := adopts .overflow (by decide)
  have sup : (adoptTime b u).sup = u.sup := adopts .sup (by decide)
  have view : (adoptTime b u).view = reweigh x b.weight v := (adopts .view (by decide)).trans uview
  have whole : Passes (.calendar :: reportParts) reportEvents (fun _ => True) (s.atMs ms) (adoptTime b u) :=
    (passes.mono (by decide) (fun _ h => h) fun _ h => h).trans
      (Passes.of_keeps (adopts.mono (by decide)) (adopts .line (by decide)) (adopts .service (by decide)) events)
  have adopted := adoptTime_adopts (b := b) (s := u)
  have declined := adoptTime_declines (b := b) (s := u)
  rw [calendar] at adopted declined
  generalize adoptTime b u = t at *
  refine ⟨relight s t, w, a, r, u, exec_eq, view, fun none => ?_, fun before p full => ?_, delivered, wview.trans view.symm,
    woverflow.trans overflow.symm, ?_, judged, fun e => unchanged (view.symm.trans e), fun e => reweighed fun c => e (view.trans c),
    adopts.relight, (congrArg Supervisor.silence sup).trans silence, whole.service, fun p hp => ?_, adopted, declined,
    whole.keeps.relight⟩
  · rw [relight_overflow, relight_events, overflow, events]
    exact stored none
  · rw [relight_overflow, overflow]
    exact ⟨(unstored before p full).1, fun hl => ((unstored before p full).2 hl).of_cell (by rw [relight_events, events])⟩
  · rw [relight_view, view]
    exact removed
  · rw [relight_view, view]
    exact stored_mem hp

end Sys2Proof.Machine

namespace Sys2Proof.Machine

/-! ## The event unit as occurrences leave it (R167 to R169) -/

/-- R168: what occurrences can make of a cell: mask and selection stay, what is set stays set, and a masked status stays. -/
structure EventCell.Follows (c d : EventCell) : Prop where
  grows : c.Grows d
  status : c.status = true → d.status = true

theorem EventCell.Follows.refl (c : EventCell) : c.Follows c := ⟨.refl c, id⟩

theorem EventCell.Follows.trans {c d e : EventCell} (h : c.Follows d) (k : d.Follows e) : c.Follows e :=
  ⟨h.grows.trans k.grows, fun s => k.status (h.status s)⟩

/-- R168, R169: what occurrences can make of the event unit. -/
structure EventUnit.Follows (u v : EventUnit) : Prop where
  cells : ∀ k, (u.cell k).Follows (v.cell k)
  reports : u.reports <+: v.reports
  destinations : v.destinations = u.destinations
  length : v.cells.length = u.cells.length

theorem EventUnit.Follows.refl (u : EventUnit) : u.Follows u := ⟨fun _ => .refl _, List.prefix_refl _, rfl, rfl⟩

theorem EventUnit.Follows.trans {u v w : EventUnit} (h : u.Follows v) (k : v.Follows w) : u.Follows w :=
  ⟨fun n => (h.cells n).trans (k.cells n), h.reports.trans k.reports, k.destinations.trans h.destinations,
    k.length.trans h.length⟩

theorem EventUnit.record_follows (u : EventUnit) (k : Nat) (d : Detail) : u.Follows (u.record k d) where
  cells n := by
    rw [EventUnit.record, EventUnit.cell_modCell]
    split
    · refine ⟨⟨rfl, rfl, ?_, fun _ => rfl⟩, fun h => by simp [h]⟩
      cases (u.cell n).status <;> cases (u.cell n).mask <;> rfl
    · exact .refl _
  reports := List.prefix_refl _
  destinations := rfl
  length := EventUnit.length_record u k d

theorem EventUnit.place_follows (u : EventUnit) (r : Report) : u.Follows (u.place r) where
  cells _ := .refl _
  reports := List.prefix_append _ _
  destinations := rfl
  length := rfl

theorem EventUnit.overrun_follows (u : EventUnit) (lost minutes : Nat) : u.Follows (u.overrun lost minutes) := by
  have recorded := u.record_follows Event.reportOverrun.number (eventDetail lost)
  unfold EventUnit.overrun
  simp only
  split
  · split
    · exact recorded.trans (EventUnit.place_follows _ _)
    · exact recorded
  · exact recorded

theorem EventUnit.offer_follows (u : EventUnit) (r : Report) (minutes : Nat) : u.Follows (u.offer r minutes) := by
  unfold EventUnit.offer
  split
  · exact u.place_follows r
  · exact u.overrun_follows _ _

theorem EventUnit.occur_follows (u : EventUnit) (k : Nat) (d : Detail) (minutes : Nat) : u.Follows (u.occur k d minutes) := by
  unfold EventUnit.occur
  split
  · exact (u.record_follows k d).trans (EventUnit.offer_follows _ _ _)
  · exact u.record_follows k d

/-! ### The configured unit (R167) -/

theorem EventUnit.cell_configure (u : EventUnit) (f : Figures) {k : Nat} (h : k < u.cells.length) :
    (u.configure f).cell k =
      { u.cell k with
        mask := f.mask.getD k false, push := f.selection.getD k none
        status := (u.cell k).status && !f.mask.getD k false } := by
  simp only [EventUnit.cell, EventUnit.configure, List.getD_eq_getElem?_getD, List.getElem?_mapIdx, List.getElem?_eq_getElem h,
    Option.map_some, Option.getD_some]

/-- R167: the report that the second step of the configuration places for event `k`. -/
def EventUnit.dueReport (u : EventUnit) (minutes k : Nat) : Option Report :=
  if (u.cell k).status = true then u.reportFor k (u.cell k).detail minutes else none

/-- R167, second step, for one event. -/
def EventUnit.reportOne (u : EventUnit) (minutes : Nat) (v : EventUnit) (k : Nat) : EventUnit :=
  match (u.cell k).status, v.reportFor k (v.cell k).detail minutes with
  | true, some r => v.offer r minutes
  | _, _ => v

theorem EventUnit.reportOne_follows (u : EventUnit) (minutes : Nat) (v : EventUnit) (k : Nat) : v.Follows (u.reportOne minutes v k) := by
  unfold EventUnit.reportOne
  split
  · exact v.offer_follows _ _
  · exact .refl v

theorem EventUnit.reportAll_follows (u : EventUnit) (minutes : Nat) : u.Follows (u.reportAll minutes) := by
  have all : ∀ (l : List Nat) (v : EventUnit), v.Follows (l.foldl (u.reportOne minutes) v) := fun l => by
    induction l with
    | nil => exact .refl
    | cons k ks ih => exact fun v => (u.reportOne_follows minutes v k).trans (ih _)
  exact all (List.range 26) u

theorem EventUnit.reportAll_cell (u : EventUnit) (minutes : Nat) {j : Nat} (h : j ≠ Event.reportOverrun.number) :
    (u.reportAll minutes).cell j = u.cell j := by
  have one : ∀ (v : EventUnit) (k : Nat), (u.reportOne minutes v k).cell j = v.cell j := fun v k => by
    unfold EventUnit.reportOne
    split
    · exact EventUnit.cell_offer _ _ _ _ h
    · rfl
  have all : ∀ (l : List Nat) (v : EventUnit), (l.foldl (u.reportOne minutes) v).cell j = v.cell j := fun l => by
    induction l with
    | nil => exact fun _ => rfl
    | cons k ks ih => exact fun v => (ih _).trans (one v k)
  exact all (List.range 26) u

/-- A unit as it is but for its list of reports. -/
def EventUnit.withReports (u : EventUnit) (l : List Report) : EventUnit := { u with reports := l }

theorem EventUnit.reportOne_due {u : EventUnit} {minutes k : Nat} {l : List Report}
    (room : l.length + (u.dueReport minutes k).toList.length ≤ 8) :
    u.reportOne minutes (u.withReports l) k = u.withReports (l ++ (u.dueReport minutes k).toList) := by
  have same : (u.withReports l).reportFor k ((u.withReports l).cell k).detail minutes = u.reportFor k (u.cell k).detail minutes := rfl
  unfold EventUnit.reportOne EventUnit.dueReport at *
  rw [same]
  cases hs : (u.cell k).status with
  | false => simp
  | true =>
    rw [hs] at room
    cases hr : u.reportFor k (u.cell k).detail minutes with
    | none => simp
    | some r =>
      rw [hr] at room
      have fits : (u.withReports l).room = true := decide_eq_true (by
        show l.length < 8
        simp at room
        omega)
      exact if_pos fits

/-- R167: while there is room the reports join the list in ascending event number. -/
theorem EventUnit.reportAll_reports {u : EventUnit} {minutes : Nat}
    (room : u.reports.length + ((List.range 26).filterMap (u.dueReport minutes)).length ≤ 8) :
    (u.reportAll minutes).reports = u.reports ++ (List.range 26).filterMap (u.dueReport minutes) := by
  have all : ∀ (ks : List Nat) (l : List Report), l.length + (ks.filterMap (u.dueReport minutes)).length ≤ 8 →
      ks.foldl (u.reportOne minutes) (u.withReports l) = u.withReports (l ++ ks.filterMap (u.dueReport minutes)) := fun ks => by
    induction ks with
    | nil => exact fun l _ => by simp
    | cons k ks ih =>
      intro l hl
      have split : (k :: ks).filterMap (u.dueReport minutes) =
          (u.dueReport minutes k).toList ++ ks.filterMap (u.dueReport minutes) := by
        rw [List.filterMap_cons]
        cases u.dueReport minutes k <;> rfl
      rw [split, List.length_append] at hl
      rw [List.foldl_cons, reportOne_due (by omega), ih _ (by rw [List.length_append]; omega), split, List.append_assoc]
  have whole := all (List.range 26) u.reports room
  exact congrArg EventUnit.reports whole

/-! ### The occurrences of the machine's steps -/

theorem raise_follows (e : Event) (d : Detail) (s : State) : s.events.Follows (raise e d s).events :=
  EventUnit.occur_follows _ _ _ _

theorem displaced_follows (f : TxFrame) (s : State) : s.events.Follows (displaced f s).events := by
  unfold displaced
  split
  · exact raise_follows _ _ s
  · rw [show (noteGone f s).events = s.events from noteGone_keeps f s .events (by decide)]
    exact .refl _

theorem offer_follows (f : TxFrame) (s : State) : s.events.Follows (offer f s).events := by
  have lost : ∀ (l : Line) (g : TxFrame), s.events.Follows (displaced g (s.setLine l)).events := fun l g =>
    displaced_follows g (s.setLine l)
  unfold offer
  split
  · exact .refl _
  · split
    · exact .refl _
    · split
      · unfold offerFull
        split
        · exact .refl _
        · split
          · exact lost _ _
          · split
            · split <;> exact .refl _
            · exact .refl _
      · exact .refl _

theorem queueClaim_follows (g : Nat) (s : State) : s.events.Follows (queueClaim g s).events := by
  unfold queueClaim
  split
  · exact offer_follows _ s
  · exact .refl _

theorem offerBeacon_follows (s : State) : s.events.Follows (offerBeacon s).events := by
  unfold offerBeacon
  split
  · exact .refl _
  · exact offer_follows _ s

theorem evalOverrun_follows (s : State) : s.events.Follows (evalOverrun s).events := by
  unfold evalOverrun
  split
  · split
    · split
      · exact .refl _
      · exact raise_follows _ _ { s with overrun := true }
    · exact .refl _
  · exact .refl _

end Sys2Proof.Machine

namespace Sys2Proof.Machine

/-! ## The steps at the end of LOADING (R45, R91, R120, R126, R128) -/

/-! ### The tests that a restart has ended (R91) -/

/-- R91: a member of a stored TESTING group. -/
def Lum.restartAborted (l : Lum) : Lum := { l with test := .aborted, endOwed := l.branch.isSome }

theorem restoreTest_testing (g : Nat) (s : State) :
    restoreTest s (g, .storedTesting) =
      raise .testAborted (groupDetail g) ((s.group g).defn.members.foldl (fun t n => t.modLum n Lum.restartAborted) s) := rfl

theorem restoreTest_other {r : Nat × Restored} (s : State) (h : r.2 ≠ .storedTesting) : restoreTest s r = s := by
  unfold restoreTest
  split
  · exact absurd ‹_› h
  · rfl
  · rfl

theorem restoreTest_lum (g : Nat) {s : State} {m : Nat} (hm : m < s.lums.length) :
    (restoreTest s (g, .storedTesting)).lum m = if m ∈ (s.group g).defn.members then (s.lum m).restartAborted else s.lum m := by
  rw [restoreTest_testing]
  exact foldl_lum (step := fun t n => t.modLum n Lum.restartAborted) (f := Lum.restartAborted) (P := fun t => m < t.lums.length) m
    (fun t n h => by rwa [State.modLum_lums_length]) (fun t h => t.lum_modLum m _ h) (fun t _ h => t.lum_modLum_ne _ _ _ h)
    (fun _ => rfl) _ s hm

/-- What the ends by a restart pass over. -/
theorem restoreTest_passes (r : Nat × Restored) (s : State) :
    Passes [.lums, .events] [.testAborted] (fun _ => False) s (restoreTest s r) := by
  obtain ⟨g, kind⟩ := r
  cases kind with
  | storedTesting =>
    have members : Passes [.lums, .events] [.testAborted] (fun _ => False) s
        ((s.group g).defn.members.foldl (fun t n => t.modLum n Lum.restartAborted) s) :=
      Passes.foldl _ (fun t n _ => Passes.of_keeps ((modLum_keeps n _ t).mono (by decide)) rfl rfl rfl) s
    exact members.trans (raise_passes _ _ _ (by decide) (by decide))
  | storedRecovering => exact Passes.refl _ _ _ s
  | damaged => exact Passes.refl _ _ _ s

theorem restoreTests_passes (l : List (Nat × Restored)) (s : State) :
    Passes [.lums, .events] [.testAborted] (fun _ => False) s (l.foldl restoreTest s) :=
  Passes.foldl l (fun s r _ => restoreTest_passes r s) s

theorem restoreTest_lums_length (r : Nat × Restored) (s : State) : (restoreTest s r).lums.length = s.lums.length := by
  obtain ⟨g, kind⟩ := r
  cases kind with
  | storedTesting =>
    have all : ∀ (l : List Nat) (t : State), (l.foldl (fun t n => t.modLum n Lum.restartAborted) t).lums.length = t.lums.length :=
      fun l => by
        induction l with
        | nil => exact fun _ => rfl
        | cons n ns ih => exact fun t => (ih _).trans (t.modLum_lums_length n _)
    exact all (s.group g).defn.members s
  | storedRecovering => rfl
  | damaged => rfl

theorem restoreTest_group (r : Nat × Restored) (s : State) (g : Nat) : (restoreTest s r).group g = s.group g :=
  State.group_of_groups ((restoreTest_passes r s).keeps .groups (by decide)) g

/-- R91: the members of the stored TESTING groups are ABORTED, and no other luminaire changes. -/
theorem restoreTests_lum (l : List (Nat × Restored)) {s : State} {m : Nat} (hm : m < s.lums.length) :
    ((∃ g, (g, Restored.storedTesting) ∈ l ∧ m ∈ (s.group g).defn.members) →
      (l.foldl restoreTest s).lum m = (s.lum m).restartAborted) ∧
    ((¬ ∃ g, (g, Restored.storedTesting) ∈ l ∧ m ∈ (s.group g).defn.members) → (l.foldl restoreTest s).lum m = s.lum m) := by
  induction l generalizing s with
  | nil => exact ⟨fun ⟨_, h, _⟩ => absurd h List.not_mem_nil, fun _ => rfl⟩
  | cons r rs ih =>
    obtain ⟨some, none⟩ := ih (s := restoreTest s r) (by rwa [restoreTest_lums_length])
    simp only [restoreTest_group] at some none
    rw [List.foldl_cons]
    by_cases head : ∃ g, r = (g, Restored.storedTesting) ∧ m ∈ (s.group g).defn.members
    · obtain ⟨g, rfl, member⟩ := head
      have first : (restoreTest s (g, .storedTesting)).lum m = (s.lum m).restartAborted :=
        (restoreTest_lum g hm).trans (if_pos member)
      refine ⟨fun _ => ?_, fun h => absurd ⟨g, List.mem_cons_self, member⟩ h⟩
      by_cases tail : ∃ k, (k, Restored.storedTesting) ∈ rs ∧ m ∈ (s.group k).defn.members
      · rw [some tail, first]
        rfl
      · rw [none tail, first]
    · have first : (restoreTest s r).lum m = s.lum m := by
        by_cases kind : r.2 = .storedTesting
        · obtain ⟨g, _⟩ := r
          cases kind
          exact (restoreTest_lum g hm).trans (if_neg fun h => head ⟨g, rfl, h⟩)
        · rw [restoreTest_other s kind]
      rw [first] at some none
      refine ⟨fun ⟨g, hg, member⟩ => some ⟨g, ?_, member⟩, fun h => none fun ⟨g, hg, member⟩ => h ⟨g, List.mem_cons_of_mem _ hg, member⟩⟩
      exact (List.mem_cons.mp hg).resolve_left fun e => head ⟨g, e.symm, member⟩

theorem restoreTests_none {l : List (Nat × Restored)} (s : State) (h : ∀ g, (g, Restored.storedTesting) ∉ l) :
    l.foldl restoreTest s = s := by
  induction l generalizing s with
  | nil => rfl
  | cons r rs ih =>
    rw [List.foldl_cons, restoreTest_other s fun e => h r.1 (e ▸ List.mem_cons_self)]
    exact ih s fun g hg => h g (List.mem_cons_of_mem _ hg)

/-- R91: TEST_ABORTED has occurred with a stored TESTING group. -/
theorem restoreTests_aborted {l : List (Nat × Restored)} {s : State} (hl : s.events.cells.length = 26)
    (h : ∃ g, (g, Restored.storedTesting) ∈ l) :
    ((l.foldl restoreTest s).events.cell Event.testAborted.number).raw = true ∧
      ∃ g, (g, Restored.storedTesting) ∈ l ∧
        ((l.foldl restoreTest s).events.cell Event.testAborted.number).detail = groupDetail g := by
  induction l generalizing s with
  | nil => exact nomatch h.choose_spec
  | cons r rs ih =>
    rw [List.foldl_cons]
    by_cases tail : ∃ g, (g, Restored.storedTesting) ∈ rs
    · obtain ⟨raw, g, hg, detail⟩ := ih (s := restoreTest s r) ((restoreTest_passes r s).length.trans hl) tail
      exact ⟨raw, g, List.mem_cons_of_mem _ hg, detail⟩
    · obtain ⟨g, hg⟩ := h
      have e : (g, Restored.storedTesting) = r := (List.mem_cons.mp hg).resolve_right fun m => tail ⟨g, m⟩
      subst e
      rw [restoreTests_none _ fun k hk => tail ⟨k, hk⟩, restoreTest_testing]
      have occurs := raise_occurs .testAborted (groupDetail g)
        ((s.group g).defn.members.foldl (fun t n => t.modLum n Lum.restartAborted) s)
        (by
          have members := Passes.foldl (ps := [.lums]) (es := []) (freed := fun _ => False) (s.group g).defn.members
            (fun t n _ => Passes.of_keeps (modLum_keeps n Lum.restartAborted t) rfl rfl rfl) s
          rw [members.length, hl]
          decide)
        (by decide)
      unfold Occurs at occurs
      rw [occurs]
      exact ⟨rfl, g, List.mem_cons_self, rfl⟩

theorem restoreTest_follows (r : Nat × Restored) (s : State) : s.events.Follows (restoreTest s r).events := by
  obtain ⟨g, kind⟩ := r
  cases kind with
  | storedTesting =>
    have same : ((s.group g).defn.members.foldl (fun t n => t.modLum n Lum.restartAborted) s).events = s.events :=
      Keeps.foldl (fun t n => modLum_keeps n Lum.restartAborted t) _ s .events (by decide)
    have raised := raise_follows .testAborted (groupDetail g)
      ((s.group g).defn.members.foldl (fun t n => t.modLum n Lum.restartAborted) s)
    rw [same] at raised
    exact raised
  | storedRecovering => exact .refl _
  | damaged => exact .refl _

theorem restoreTests_follows (l : List (Nat × Restored)) (s : State) : s.events.Follows (l.foldl restoreTest s).events := by
  induction l generalizing s with
  | nil => exact .refl _
  | cons r rs ih => exact (restoreTest_follows r s).trans (ih _)

/-! ### The time reported (R120) -/

theorem reportTime_passes (s : State) : Passes [.events] [.timeInvalid] (fun _ => False) s (reportTime s) := by
  unfold reportTime
  split
  · exact Passes.refl _ _ _ s
  · exact raise_passes _ _ s (by decide) (by decide)

theorem reportTime_follows (s : State) : s.events.Follows (reportTime s).events := by
  unfold reportTime
  split
  · exact .refl _
  · exact raise_follows _ _ s

theorem reportTime_valid {s : State} (h : s.calendar.valid = true) : reportTime s = s := if_pos h

theorem reportTime_occurs {s : State} (h : s.calendar.valid = false) (hl : s.events.cells.length = 26) :
    Occurs .timeInvalid noDetail s (reportTime s) := by
  have e : reportTime s = raise .timeInvalid noDetail s := if_neg (by rw [h]; decide)
  rw [e]
  exact raise_occurs .timeInvalid noDetail s (by rw [hl]; decide) (by decide)

/-! ### The restored groups announced (R45) -/

/-- R45, for one group. -/
def announceOne (t : State) (g : Nat) : State := startRefresh g (queueClaim g t)

theorem announceRestored_eq (s : State) :
    announceRestored s = (s.groupsIn (fun st => decide (st = .recovering))).foldl announceOne s := rfl

/-- R42: a group whose refresh has started. -/
def Group.refreshing (gr : Group) : Group := { gr with claim := gr.claim.map (fun c => { c with refresh := some 60 }) }

theorem announceOne_passes {es : List Event} (g : Nat) (s : State) : Passes testParts es (· = g) s (announceOne s g) :=
  (queueClaim_passes g s).trans (modGroup_passes g _ _)

theorem announceOne_group_ne {g h : Nat} (s : State) (ne : h ≠ g) : (announceOne s g).group h = s.group h := by
  rw [announceOne, startRefresh_group_ne _ _ _ ne, queueClaim_group]

theorem announceOne_group {g : Nat} {s : State} (hg : g < s.groups.length) : (announceOne s g).group g = (s.group g).refreshing := by
  have length : (queueClaim g s).groups.length = s.groups.length := by
    rw [show (queueClaim g s).groups = s.groups from queueClaim_keeps g s .groups (by decide)]
  rw [announceOne, startRefresh_group _ _ (by rw [length]; exact hg), queueClaim_group]
  rfl

theorem announceOne_groups_length (g : Nat) (s : State) : (announceOne s g).groups.length = s.groups.length := by
  rw [announceOne, startRefresh, State.modGroup_groups_length,
    show (queueClaim g s).groups = s.groups from queueClaim_keeps g s .groups (by decide)]

theorem announces_group_ne {l : List Nat} {h : Nat} (s : State) (hl : h ∉ l) : (l.foldl announceOne s).group h = s.group h := by
  induction l generalizing s with
  | nil => rfl
  | cons g gs ih =>
    obtain ⟨hg, hgs⟩ := not_or.mp (mt List.mem_cons.mpr hl)
    exact (ih _ hgs).trans (announceOne_group_ne s hg)

theorem announces_groups_length (l : List Nat) (s : State) : (l.foldl announceOne s).groups.length = s.groups.length := by
  induction l generalizing s with
  | nil => rfl
  | cons g gs ih => exact (ih _).trans (announceOne_groups_length g s)

/-- R27: the CLAIM that announces a RECOVERING group. -/
def State.announcement (s : State) (g : Nat) : TxFrame :=
  .claim g
    { phase := .recovering, urgency := (s.group g).claimUrgency, weight := (s.group g).defn.members.length,
      remaining := (s.group g).recharge.getD 0, home := (s.group g).defn.home, neighbours := (s.group g).defn.neighbours }

theorem announcement_eq {s : State} {g : Nat} {c : ClaimRecord} (hc : c.phase = .recovering) :
    TxFrame.claim g (s.claimBody g c.phase) = s.announcement g := by
  rw [hc]
  rfl

/-- R45: an announced group, its refresh started and its CLAIM waiting. -/
theorem announces_spec {l : List Nat} {g : Nat} {s : State} {c : ClaimRecord} (nodup : l.Nodup) (hg : g ∈ l)
    (hlen : g < s.groups.length) (hc : (s.group g).claim = some c) (hp : c.phase = .recovering) :
    (l.foldl announceOne s).group g = (s.group g).refreshing ∧ Waits (s.announcement g) (l.foldl announceOne s) := by
  obtain ⟨before, after, rfl⟩ := List.append_of_mem hg
  obtain ⟨-, nodupAfter, cross⟩ := List.nodup_append.mp nodup
  have notBefore : g ∉ before := fun m => cross g m g List.mem_cons_self rfl
  have notAfter : g ∉ after := (List.nodup_cons.mp nodupAfter).1
  rw [List.foldl_append, List.foldl_cons]
  have same : (before.foldl announceOne s).group g = s.group g := announces_group_ne s notBefore
  have length := announces_groups_length before s
  generalize before.foldl announceOne s = u at *
  refine ⟨?_, ?_⟩
  · rw [announces_group_ne _ notAfter, announceOne_group (by rw [length]; exact hlen), same]
  · have waits : Waits (s.announcement g) (announceOne u g) := by
      have queued := queueClaim_waits g u c (by rw [same]; exact hc)
      rw [announcement_eq hp, State.announcement, same] at queued
      exact (Waits.of_line (startRefresh_keeps g _ .line (by decide))).mpr queued
    have rest : Passes testParts [] (· ∈ after) (announceOne u g) (after.foldl announceOne (announceOne u g)) :=
      Passes.foldl after (fun t h hh => (announceOne_passes h t).mono (fun _ m => m) (fun _ m => m) fun _ e => e ▸ hh) _
    exact rest.claims g _ nofun notAfter waits

end Sys2Proof.Machine

namespace Sys2Proof.Machine

/-! ## The queue at the end of LOADING (R31, R45, R147) -/

/-- An empty line after the BEACON and the CLAIMs `cs` have been offered: the twelfth CLAIM takes the BEACON's place, and those
after it wait in the backlog. -/
def Line.afterBeacon (l : Line) (cs : List TxFrame) : Line :=
  { l with waiting := if cs.length < 12 then .beacon :: cs else cs.take 12, backlog := cs.drop 12 }

theorem dropLast?_eq_none {p : TxFrame → Bool} {l : List TxFrame} (h : ∀ f ∈ l, p f = false) : dropLast? p l = none := by
  induction l with
  | nil => rfl
  | cons f fs ih =>
    unfold dropLast?
    rw [ih fun g hg => h g (List.mem_cons_of_mem _ hg)]
    exact if_neg (by rw [h f List.mem_cons_self]; decide)

theorem dropLast?_head {p : TxFrame → Bool} {f : TxFrame} {l : List TxFrame} (hf : p f = true) (h : ∀ g ∈ l, p g = false) :
    dropLast? p (f :: l) = some (l, f) := by
  unfold dropLast?
  rw [dropLast?_eq_none h]
  exact if_pos hf

/-- The frames are CLAIMs of other groups than `g`. -/
def ClaimsBut (g : Nat) (cs : List TxFrame) : Prop := ∀ f ∈ cs, ∃ h b, f = .claim h b ∧ h ≠ g

theorem ClaimsBut.not_merges {g : Nat} {cs : List TxFrame} (h : ClaimsBut g cs) (b : ClaimBody) :
    cs.any (TxFrame.claim g b).mergesWith = false := by
  rw [List.any_eq_false]
  intro f hf
  obtain ⟨k, c, rfl, ne⟩ := h f hf
  simpa [TxFrame.mergesWith] using ne.symm

theorem ClaimsBut.sub {g : Nat} {cs ds : List TxFrame} (h : ClaimsBut g cs) (sub : ∀ f ∈ ds, f ∈ cs) : ClaimsBut g ds :=
  fun f hf => h f (sub f hf)

theorem ClaimsBut.not_service {g : Nat} {cs : List TxFrame} (h : ClaimsBut g cs) : ∀ f ∈ cs, f.isService = false := fun f hf => by
  obtain ⟨k, c, rfl, -⟩ := h f hf
  rfl

theorem ClaimsBut.not_beacon {g : Nat} {cs : List TxFrame} (h : ClaimsBut g cs) : ∀ f ∈ cs, f.isBeacon = false := fun f hf => by
  obtain ⟨k, c, rfl, -⟩ := h f hf
  rfl

/-- R147: one CLAIM more, of another group. -/
theorem offer_afterBeacon {l : Line} {cs : List TxFrame} {g : Nat} {b : ClaimBody} {s : State} (hc : l.current = none)
    (h : s.line = l.afterBeacon cs) (others : ClaimsBut g cs) :
    (offer (.claim g b) s).line = l.afterBeacon (cs ++ [.claim g b]) := by
  have waiting : s.line.waiting = if cs.length < 12 then .beacon :: cs else cs.take 12 := by rw [h]; rfl
  have backlog : s.line.backlog = cs.drop 12 := by rw [h]; rfl
  have noMerge : s.line.waiting.any (TxFrame.claim g b).mergesWith = false := by
    rw [waiting]
    split
    · rw [List.any_cons, others.not_merges]
      rfl
    · exact (others.sub fun f hf => List.mem_of_mem_take hf).not_merges b
  have noMergeBehind : s.line.backlog.any (TxFrame.claim g b).mergesWith = false := by
    rw [backlog]
    exact (others.sub fun f hf => List.mem_of_mem_drop hf).not_merges b
  have size : s.line.size = s.line.waiting.length := by
    unfold Line.size
    rw [show s.line.current = none by rw [h]; exact hc]
    rfl
  unfold offer
  rw [noMerge, noMergeBehind]
  simp only [Bool.false_eq_true, if_false]
  by_cases few : cs.length < 11
  · have room : s.line.full = false := decide_eq_false (by
      rw [size, waiting, if_pos (by omega), List.length_cons]
      show ¬ 12 ≤ cs.length + 1
      omega)
    rw [room, if_neg (by decide), State.setLine_line, waiting, if_pos (by omega), h]
    unfold Line.afterBeacon
    rw [List.length_append, List.length_singleton, if_pos (by omega), if_pos (show cs.length + 1 < 12 by omega),
      List.drop_eq_nil_of_le (by omega), List.drop_eq_nil_of_le (by rw [List.length_append, List.length_singleton]; omega)]
    rfl
  · have full : s.line.full = true := decide_eq_true (by
      rw [size, waiting]
      show 12 ≤ _
      split
      · rw [List.length_cons]
        omega
      · rw [List.length_take]
        omega)
    rw [full, if_pos rfl, offerFull]
    simp only [TxFrame.isService, TxFrame.isProtocol, Bool.false_eq_true, if_false, if_true]
    have noService : dropLast? TxFrame.isService s.line.waiting = none := dropLast?_eq_none (by
      rw [waiting]
      split
      · intro f hf
        rcases List.mem_cons.mp hf with rfl | hf
        · rfl
        · exact others.not_service f hf
      · exact fun f hf => others.not_service f (List.mem_of_mem_take hf))
    rw [noService]
    simp only
    by_cases eleven : cs.length = 11
    · rw [waiting, if_pos (by omega), dropLast?_head rfl others.not_beacon]
      simp only
      rw [State.setLine_line, h]
      unfold Line.afterBeacon
      have length : (cs ++ [TxFrame.claim g b]).length = 12 := by rw [List.length_append, List.length_singleton, eleven]
      rw [length, if_neg (show ¬ 12 < 12 by decide), List.take_of_length_le (le_of_eq length),
        List.drop_eq_nil_of_le (le_of_eq length), List.drop_eq_nil_of_le (show cs.length ≤ 12 by omega)]
    · rw [waiting, if_neg (by omega), dropLast?_eq_none fun f hf => others.not_beacon f (List.mem_of_mem_take hf)]
      simp only
      rw [State.setLine_line, h]
      unfold Line.afterBeacon
      simp only
      rw [List.length_append, List.length_singleton, if_neg (by omega),
        List.take_append_of_le_length (by omega), List.drop_append_of_le_length (by omega)]

theorem announceOne_line {g : Nat} {s : State} {c : ClaimRecord} (hc : (s.group g).claim = some c) (hp : c.phase = .recovering) :
    (announceOne s g).line = (offer (s.announcement g) s).line := by
  have e : queueClaim g s = offer (s.announcement g) s := by
    unfold queueClaim
    rw [hc, ← announcement_eq hp]
  rw [announceOne, show (startRefresh g (queueClaim g s)).line = (queueClaim g s).line from rfl, e]

/-- R45, R147: the line after the restored groups have been announced. -/
theorem announces_line {l : Line} {gs : List Nat} {s : State} (hl : l.current = none) (h : s.line = l.afterBeacon [])
    (nodup : gs.Nodup) (claims : ∀ g ∈ gs, ∃ c, (s.group g).claim = some c ∧ c.phase = .recovering) :
    (gs.foldl announceOne s).line = l.afterBeacon (gs.map s.announcement) := by
  induction gs using List.reverseRecOn with
  | nil => exact h
  | append_singleton gs g ih =>
    obtain ⟨nodupGs, -, cross⟩ := List.nodup_append.mp nodup
    have fresh : g ∉ gs := fun m => cross g m g List.mem_cons_self rfl
    have same : (gs.foldl announceOne s).group g = s.group g := announces_group_ne s fresh
    obtain ⟨c, hc, hp⟩ := claims g (by simp)
    rw [List.foldl_append, List.foldl_cons, List.foldl_nil, announceOne_line (by rw [same]; exact hc) hp]
    have announcement : (gs.foldl announceOne s).announcement g = s.announcement g := by
      rw [State.announcement, State.announcement, same]
    rw [announcement, List.map_append]
    refine offer_afterBeacon hl (ih nodupGs fun k hk => claims k (List.mem_append_left _ hk)) fun f hf => ?_
    obtain ⟨k, hk, rfl⟩ := List.mem_map.mp hf
    exact ⟨k, _, rfl, fun e => fresh (e ▸ hk)⟩

/-- R31: the BEACON is the first frame of an empty line. -/
theorem offerBeacon_line {s : State} (hw : s.line.waiting = []) (hc : s.line.current = none) (hb : s.line.backlog = []) :
    (offerBeacon s).line = s.line.afterBeacon [] := by
  have room : s.line.full = false := decide_eq_false (by
    unfold Line.size
    rw [hw, hc]
    decide)
  unfold offerBeacon offer Line.afterBeacon
  rw [hw, hb, room]
  simp [hb]

theorem offerBeacon_passes {es : List Event} (s : State) : Passes testParts es (fun _ => False) s (offerBeacon s) := by
  unfold offerBeacon
  split
  · exact Passes.refl _ _ _ s
  · exact ⟨(offer_keeps _ s).mono (by decide), offer_noted _ s rfl, offer_restarts rfl, (offer_eventsKept _ s).mono nofun,
      offer_cells_length _ s, fun _ _ _ _ hw => offer_waits_other rfl rfl rfl hw, fun _ hw => offer_waits_other rfl rfl rfl hw⟩

end Sys2Proof.Machine

namespace Sys2Proof.Machine

/-! ## The last luminaire record and the end of LOADING -/

/-! ### The restore of a luminaire (R157) -/

theorem LumRecord.read_good {bytes : List Byte} (h : crc16Good bytes = true) :
    LumRecord.read bytes =
      some
        { time := timeOf (fieldAt bytes 0 4), result := LResult.ofCode (byteAt bytes 4), achieved := byteAt bytes 5,
          volts := bytes.getD 6 0#8, faults := bytes.getD 7 0#8,
          next := if byteAt bytes 8 ≤ 7 then byteAt bytes 8 else 0, count := min 8 (byteAt bytes 9) } := if_pos h

theorem LumRecord.read_damaged {bytes : List Byte} (h : crc16Good bytes = false) : LumRecord.read bytes = none :=
  if_neg (by rw [h]; decide)

/-- R157: a luminaire whose record is damaged. -/
def Lum.emptied (l : Lum) : Lum := { l with record := LumRecord.empty, dirty := true }

/-- R157: a luminaire as its record, or the lack of one, leaves it. -/
def Lum.restoredFrom (record : Option LumRecord) (l : Lum) : Lum :=
  match record with
  | some r => { l with record := r }
  | none => l.emptied

theorem Lum.restoredFrom_branch (r : Option LumRecord) (l : Lum) : (l.restoredFrom r).branch = l.branch := by cases r <;> rfl
theorem Lum.restoredFrom_test (r : Option LumRecord) (l : Lum) : (l.restoredFrom r).test = l.test := by cases r <;> rfl
theorem Lum.restoredFrom_endOwed (r : Option LumRecord) (l : Lum) : (l.restoredFrom r).endOwed = l.endOwed := by cases r <;> rfl

theorem State.groupOf_isSome (s : State) (n : Nat) :
    (s.groupOf n).isSome = true ↔ ∃ g, g < 24 ∧ n ∈ (s.group g).defn.members := by
  unfold State.groupOf groupNumbers
  rw [List.find?_isSome]
  simp only [List.mem_range, List.contains_iff_mem]

theorem restoreLum_damaged (n : Nat) (s : State) :
    restoreLum n none s =
      if (s.groupOf n).isSome then raise .recordCrcError (lumDetail n) (s.modLum n (Lum.restoredFrom none))
      else s.modLum n (Lum.restoredFrom none) := rfl

theorem restoreLum_lums (n : Nat) (record : Option LumRecord) (s : State) :
    (restoreLum n record s).lums = (s.modLum n (Lum.restoredFrom record)).lums := by
  cases record with
  | some r => rfl
  | none =>
    rw [restoreLum_damaged]
    split <;> rfl

theorem restoreLum_follows (n : Nat) (record : Option LumRecord) (s : State) :
    s.events.Follows (restoreLum n record s).events := by
  cases record with
  | some r => exact .refl _
  | none =>
    rw [restoreLum_damaged]
    split
    · exact raise_follows _ _ (s.modLum n (Lum.restoredFrom none))
    · exact .refl _

theorem restoreLum_eventsKept (n : Nat) (record : Option LumRecord) (s : State) :
    EventsKept [.recordCrcError] s (restoreLum n record s) := by
  cases record with
  | some r => exact .of_events rfl
  | none =>
    rw [restoreLum_damaged]
    split
    · exact raise_eventsKept _ _ (s.modLum n (Lum.restoredFrom none))
    · exact .of_events rfl

/-- R157: a good record, or a luminaire that is no member, raises nothing. -/
theorem restoreLum_events {n : Nat} {record : Option LumRecord} {s : State}
    (h : record ≠ none ∨ ¬ ∃ g, g < 24 ∧ n ∈ (s.group g).defn.members) : (restoreLum n record s).events = s.events := by
  cases record with
  | some r => rfl
  | none =>
    rw [restoreLum_damaged, if_neg fun hs => (h.resolve_left fun k => k rfl) ((s.groupOf_isSome n).mp hs)]
    rfl

/-- R157: the damaged record of a member raises RECORD_CRC_ERROR. -/
theorem restoreLum_raised {n : Nat} {s : State} (hl : s.events.cells.length = 26)
    (h : ∃ g, g < 24 ∧ n ∈ (s.group g).defn.members) : Occurs .recordCrcError (lumDetail n) s (restoreLum n none s) := by
  rw [restoreLum_damaged, if_pos ((s.groupOf_isSome n).mpr h)]
  exact raise_occurs .recordCrcError (lumDetail n) (s.modLum n (Lum.restoredFrom none))
    (by show _ < s.events.cells.length; rw [hl]; decide) (by decide)

/-! ### The last read (R126) -/

theorem exec_luminaireRecordRead {s : State} {n : Nat} (hp : s.powered = true) (hm : s.sup.mode = .loading)
    (hl : s.loader.next = .lumRecord n) (answer : MemAnswer) (ms : Nat) :
    exec (.luminaireRecordRead answer ms) s =
      .next (relight s (lumRead n (s.mem.nvm.answer (lumOffset n) 32 answer).2
        ((s.atMs ms).setNvm (s.mem.nvm.answer (lumOffset n) 32 answer).1))) := by
  show execLuminaireRecordRead answer ms s = _
  unfold execLuminaireRecordRead
  rw [live_powered _ hp, hl]
  simp only [if_pos hm]
  rfl

/-- The loader, its last record read. -/
def lastRead (bytes : List Byte) (s : State) : State :=
  advanceLoader (if s.loader.figures.isSome then restoreLum 127 (LumRecord.read bytes) s else s)

theorem advanceLoader_keeps (s : State) : Keeps [.loader] s (advanceLoader s) := fun p h => by
  cases p <;> first | rfl | simp at h

theorem lastRead_loader {s : State} (h : s.loader.next = .lumRecord 127) (bytes : List Byte) :
    (lastRead bytes s).loader = { s.loader with next := .done } := by
  have same : (if s.loader.figures.isSome then restoreLum 127 (LumRecord.read bytes) s else s).loader = s.loader := by
    split
    · exact restoreLum_keeps 127 _ s .loader (by decide)
    · rfl
  unfold lastRead advanceLoader
  generalize (if s.loader.figures.isSome then restoreLum 127 (LumRecord.read bytes) s else s) = u at same
  show ({ u.loader with next := u.loader.next.after } : Loader) = _
  rw [same, h]
  rfl

theorem lumRead_last {s : State} (h : s.loader.next = .lumRecord 127) (bytes : List Byte) :
    lumRead 127 bytes s = endLoading (lastRead bytes s) := by
  have over' : (lastRead bytes s).loader.next = .done := by rw [lastRead_loader h]
  exact if_pos over'

theorem endLoading_good {s : State} {f : Figures} (h : s.loader.figures = some f) : endLoading s = loadedGood f s := by
  unfold endLoading
  rw [h]

theorem endLoading_bad {s : State} (h : s.loader.figures = none) : endLoading s = loadedBad s := by
  unfold endLoading
  rw [h]

theorem lastRead_good {s : State} {f : Figures} (h : s.loader.figures = some f) (bytes : List Byte) :
    lastRead bytes s = advanceLoader (restoreLum 127 (LumRecord.read bytes) s) := by
  unfold lastRead
  rw [h]
  rfl

theorem lastRead_bad {s : State} (h : s.loader.figures = none) (bytes : List Byte) : lastRead bytes s = advanceLoader s := by
  unfold lastRead
  rw [h]
  rfl

end Sys2Proof.Machine

namespace Sys2Proof.Machine

/-! ## The steps after the hand-over of the figures (R91, R120, R48, R128) -/

/-! ### Up to the overrun latch -/

/-- R91, R120, R48: the tests that the restart ended, the time and the latch. -/
def settled (s : State) : State := evalOverrun (reportTime (s.loader.restored.foldl restoreTest s))

theorem settled_passes (s : State) :
    Passes [.lums, .events, .overrun] [.testAborted, .timeInvalid, .loadOver] (fun _ => False) s (settled s) :=
  (((restoreTests_passes _ s).mono (by decide) (by decide) fun _ h => h).trans
    ((reportTime_passes _).mono (by decide) (by decide) fun _ h => h)).trans
    ((evalOverrun_passes _).mono (by decide) (by decide) fun _ h => h)

theorem settled_follows (s : State) : s.events.Follows (settled s).events :=
  ((restoreTests_follows _ s).trans (reportTime_follows _)).trans (evalOverrun_follows _)

theorem settled_lums (s : State) : (settled s).lums = (s.loader.restored.foldl restoreTest s).lums :=
  (evalOverrun_keeps _ .lums (by decide)).trans (reportTime_keeps _ .lums (by decide))

theorem settled_aborted {s : State} (hl : s.events.cells.length = 26)
    (h : ∃ g, (g, Restored.storedTesting) ∈ s.loader.restored) :
    ((settled s).events.cell Event.testAborted.number).raw = true ∧
      ∃ g, (g, Restored.storedTesting) ∈ s.loader.restored ∧
        ((settled s).events.cell Event.testAborted.number).detail = groupDetail g := by
  have aborted := restoreTests_aborted hl h
  unfold settled
  generalize s.loader.restored.foldl restoreTest s = u at aborted ⊢
  rw [(evalOverrun_passes _).events.2 .testAborted (by decide) (by decide),
    (reportTime_passes u).events.2 .testAborted (by decide) (by decide)]
  exact aborted

theorem settled_timed {s : State} (hl : s.events.cells.length = 26) (h : s.calendar.valid = false) :
    Occurs .timeInvalid noDetail s (settled s) := by
  have tests := restoreTests_passes s.loader.restored s
  have grow := restoreTests_follows s.loader.restored s
  unfold settled
  generalize s.loader.restored.foldl restoreTest s = u at tests grow ⊢
  have valid : u.calendar.valid = false := by rw [show u.calendar = s.calendar from tests.keeps .calendar (by decide)]; exact h
  have occurs := reportTime_occurs valid (tests.length.trans hl)
  exact (occurs.of_cell ((evalOverrun_passes _).events.2 .timeInvalid (by decide) (by decide))).after_growth (by decide)
    fun e _ => (grow.cells e.number).grows

theorem settled_quiet {s : State} {e : Event} (tests : e ≠ .testAborted ∨ ∀ g, (g, Restored.storedTesting) ∉ s.loader.restored)
    (time : e ≠ .timeInvalid ∨ s.calendar.valid = true) (ho : e ≠ .loadOver) (hr : e ≠ .reportOverrun) :
    (settled s).events.cell e.number = s.events.cell e.number := by
  have restored : (s.loader.restored.foldl restoreTest s).events.cell e.number = s.events.cell e.number := by
    rcases tests with h | h
    · exact (restoreTests_passes _ s).events.2 e (by simpa using h) hr
    · rw [restoreTests_none s h]
  have calendar : (s.loader.restored.foldl restoreTest s).calendar = s.calendar :=
    (restoreTests_passes _ s).keeps .calendar (by decide)
  unfold settled
  generalize s.loader.restored.foldl restoreTest s = u at restored calendar ⊢
  rw [(evalOverrun_passes _).events.2 e (by simpa using ho) hr]
  rcases time with h | h
  · exact ((reportTime_passes u).events.2 e (by simpa using h) hr).trans restored
  · rw [reportTime_valid (by rw [calendar]; exact h)]
    exact restored

/-- R48: an evaluation leaves the latch right. -/
theorem evalOverrun_latchFits (s : State) : (evalOverrun s).LatchFits := by
  have latched := (evalOverrun_relatched (s := s) (u := s) rfl rfl rfl rfl rfl).latch
  unfold State.LatchFits
  have load : (evalOverrun s).viewLoad = s.viewLoad := by
    unfold State.viewLoad
    rw [show (evalOverrun s).view = s.view from evalOverrun_keeps s .view (by decide)]
  rw [load, show (evalOverrun s).figures = s.figures from evalOverrun_keeps s .figures (by decide)]
  exact latched

/-! ### The slot draw, which an offer leaves alone (R141) -/

theorem OfferedTo.draw {f : TxFrame} {l m : Line} (h : OfferedTo f l m) : m.draw = l.draw := by
  cases h <;> rfl

theorem offerBeacon_draw (s : State) : (offerBeacon s).line.draw = s.line.draw := by
  unfold offerBeacon
  split
  · rfl
  · exact (offer_offeredTo .beacon s rfl).draw

theorem queueClaim_draw (g : Nat) (s : State) : (queueClaim g s).line.draw = s.line.draw := by
  unfold queueClaim
  split
  · exact (offer_offeredTo (.claim g _) s rfl).draw
  · rfl

theorem announces_draw (l : List Nat) (s : State) : (l.foldl announceOne s).line.draw = s.line.draw := by
  induction l generalizing s with
  | nil => rfl
  | cons g gs ih => exact (ih (announceOne s g)).trans (queueClaim_draw g s)

/-! ### The first entry into LISTENING (R128, R31, R45, R104) -/

/-- R128, R31: LISTENING entered, the beacon countdown running and the BEACON queued. -/
def opened (s : State) : State := offerBeacon { relistening s with beacon := some s.figures.beacon }

theorem withdrawAll_none (r : Option Reason) {s : State} (h : ∀ g, g < 24 → (s.group g).state ≠ .proposed) :
    withdrawAll r s = s :=
  withdrawals_none r groupNumbers s fun g hg => h g (List.mem_range.mp hg)

/-- R128: with no PROPOSED group none is withdrawn. -/
theorem firstListening_eq {s : State} (h : ∀ g, g < 24 → (s.group g).state ≠ .proposed) :
    firstListening s = startSweep (announceRestored (opened s)) := by
  have entered : enterListening s = relistening s := withdrawAll_none (s := relistening s) _ h
  unfold firstListening
  rw [entered]
  rfl

theorem opened_passes (s : State) :
    Passes [.sup, .beacon, .line, .events, .service] [] (fun _ => False) s (opened s) := by
  have start : Passes [.sup, .beacon, .line, .events, .service] [] (fun _ => False) s
      { relistening s with beacon := some s.figures.beacon } :=
    Passes.of_keeps (fun p h => by cases p <;> first | rfl | simp at h) rfl rfl rfl
  unfold opened
  generalize ({ relistening s with beacon := some s.figures.beacon } : State) = u at start ⊢
  exact start.trans { offerBeacon_passes (es := []) u with keeps := (offerBeacon_keeps u).mono (by decide) }

theorem opened_sup (s : State) :
    (opened s).sup =
      { s.sup with
        mode := .listening, reason := .noReason, listen := some ((2 * s.figures.beacon + 1) * 60),
        silence := some (s.figures.silence * 60), fallback := none, clear := none } :=
  offerBeacon_keeps _ .sup (by decide)

theorem opened_beacon (s : State) : (opened s).beacon = some s.figures.beacon := offerBeacon_keeps _ .beacon (by decide)

theorem opened_group (s : State) (g : Nat) : (opened s).group g = s.group g :=
  State.group_of_groups ((opened_passes s).keeps .groups (by decide)) g

theorem opened_line {s : State} (hw : s.line.waiting = []) (hc : s.line.current = none) (hb : s.line.backlog = []) :
    (opened s).line = s.line.afterBeacon [] := offerBeacon_line (s := { relistening s with beacon := some s.figures.beacon }) hw hc hb

theorem announceRestored_passes (s : State) :
    Passes [.groups, .line, .events, .service] [] (fun _ => True) s (announceRestored s) := by
  rw [announceRestored_eq]
  exact Passes.foldl _ (fun t g _ =>
    { (announceOne_passes g t).mono (fun _ h => h) (fun _ h => h) (fun _ _ => trivial) with
      keeps := ((queueClaim_keeps g t).mono (by decide)).trans ((startRefresh_keeps g _).mono (by decide)) }) s

theorem announceRestored_follows (s : State) : s.events.Follows (announceRestored s).events := by
  have one : ∀ (t : State) (g : Nat), t.events.Follows (announceOne t g).events := fun t g => queueClaim_follows g t
  have all : ∀ (l : List Nat) (t : State), t.events.Follows (l.foldl announceOne t).events := fun l => by
    induction l with
    | nil => exact fun _ => .refl _
    | cons g gs ih => exact fun t => (one t g).trans (ih _)
  exact all _ s

/-- R45: the announcements change no group's state and no definition. -/
theorem announceOne_standing (s : State) (g h : Nat) :
    ((announceOne s g).group h).state = (s.group h).state ∧ ((announceOne s g).group h).defn = (s.group h).defn := by
  have queued := queueClaim_group g h s
  rw [announceOne, startRefresh]
  refine State.group_modGroup_ind (P := fun gr => gr.state = (s.group h).state ∧ gr.defn = (s.group h).defn) _ _ _ _ ?_ ?_
  · rw [queued]
    exact ⟨rfl, rfl⟩
  · exact fun k => k

theorem announces_standing (l : List Nat) (s : State) (h : Nat) :
    ((l.foldl announceOne s).group h).state = (s.group h).state ∧ ((l.foldl announceOne s).group h).defn = (s.group h).defn := by
  induction l generalizing s with
  | nil => exact ⟨rfl, rfl⟩
  | cons g gs ih =>
    obtain ⟨state, defn⟩ := ih (announceOne s g)
    obtain ⟨state', defn'⟩ := announceOne_standing s g h
    exact ⟨state.trans state', defn.trans defn'⟩

theorem State.groupsIn_of_groups {s t : State} (h : ∀ g, t.group g = s.group g) (p : GState → Bool) :
    t.groupsIn p = s.groupsIn p := by
  unfold State.groupsIn
  simp only [h]

/-- R45: the RECOVERING groups, in ascending group number. -/
def State.recoveringGroups (s : State) : List Nat := s.groupsIn (fun st => decide (st = .recovering))

theorem State.mem_recoveringGroups (s : State) (g : Nat) : g ∈ s.recoveringGroups ↔ g < 24 ∧ (s.group g).state = .recovering := by
  rw [State.recoveringGroups, State.mem_groupsIn, decide_eq_true_iff]

theorem State.recoveringGroups_of_groups {s t : State} (h : ∀ g, t.group g = s.group g) : t.recoveringGroups = s.recoveringGroups :=
  State.groupsIn_of_groups h _

theorem State.announcement_of_groups {s t : State} (h : ∀ g, t.group g = s.group g) : t.announcement = s.announcement := by
  funext g
  rw [State.announcement, State.announcement, h]

theorem State.ClaimLaw.of_groups {s t : State} (law : s.ClaimLaw) (h : ∀ g, t.group g = s.group g) : t.ClaimLaw := fun g => by
  rw [h]
  exact law g

/-- R26: a RECOVERING group's claim record. -/
theorem State.ClaimLaw.recovering {s : State} (h : s.ClaimLaw) {g : Nat} (hr : (s.group g).state = .recovering) :
    ∃ c, (s.group g).claim = some c ∧ c.phase = .recovering := by
  have law := h g
  cases hc : (s.group g).claim with
  | none =>
    rw [hc, hr] at law
    cases law
  | some c =>
    rw [hc, hr] at law
    have phase : GState.recovering = c.phase.state := law
    refine ⟨c, rfl, ?_⟩
    cases hp : c.phase with
    | recovering => rfl
    | proposed => rw [hp] at phase; cases phase
    | testing => rw [hp] at phase; cases phase

/-! ### The sweep and the announcements (R45, R104) -/

theorem startSweep_passes (s : State) : Passes [.loop] [] (fun _ => False) s (startSweep s) :=
  Passes.of_keeps (startSweep_keeps s) rfl rfl rfl

theorem State.LatchFits.of_standing {s t : State} (h : s.LatchFits) (overrun : t.overrun = s.overrun)
    (figures : t.figures = s.figures) (view : t.view = s.view)
    (standing : ∀ g, (t.group g).state = (s.group g).state ∧ (t.group g).defn = (s.group g).defn) : t.LatchFits := by
  have weight : t.ownWeight = s.ownWeight :=
    Nat.le_antisymm (State.ownWeight_le_of fun g => ⟨(standing g).2, fun hr => by rw [← (standing g).1]; exact hr⟩)
      (State.ownWeight_le_of fun g => ⟨(standing g).2.symm, fun hr => by rw [(standing g).1]; exact hr⟩)
  unfold State.LatchFits State.viewLoad at *
  rw [overrun, figures, view, weight]
  simp only [fun g => (standing g).1]
  exact h

/-- R45: the RECOVERING groups announced, and a sweep begun. -/
def swept (s : State) : State := startSweep (announceRestored s)

theorem swept_passes (s : State) : Passes [.groups, .line, .events, .service, .loop] [] (fun _ => True) s (swept s) :=
  ((announceRestored_passes s).mono (by decide) (by decide) fun _ h => h).trans
    ((startSweep_passes _).mono (by decide) (by decide) fun _ h => h.elim)

theorem swept_follows (s : State) : s.events.Follows (swept s).events := announceRestored_follows s

theorem swept_loop (s : State) :
    (swept s).loop =
      { s.loop with
        a := s.loop.a.startSweep, b := s.loop.b.startSweep, sweepCountdown := some s.figures.sweepPeriod } := by
  have same := announceRestored_passes s
  unfold swept
  generalize announceRestored s = u at same ⊢
  show ({ u.loop with
    a := u.loop.a.startSweep, b := u.loop.b.startSweep, sweepCountdown := some u.figures.sweepPeriod } : Loop) = _
  rw [show u.loop = s.loop from same.keeps .loop (by decide), show u.figures = s.figures from same.keeps .figures (by decide)]

theorem swept_standing (s : State) (g : Nat) :
    ((swept s).group g).state = (s.group g).state ∧ ((swept s).group g).defn = (s.group g).defn :=
  announces_standing s.recoveringGroups s g

theorem swept_group {s : State} {g : Nat} (h : (s.group g).state ≠ .recovering) : (swept s).group g = s.group g :=
  announces_group_ne s fun m => h ((s.mem_recoveringGroups g).mp m).2

theorem swept_announced {s : State} {g : Nat} (hg : g < 24) (hl : s.groups.length = 24) (hr : (s.group g).state = .recovering)
    {c : ClaimRecord} (hc : (s.group g).claim = some c) (hp : c.phase = .recovering) :
    (swept s).group g = (s.group g).refreshing ∧ Waits (s.announcement g) (swept s) :=
  announces_spec (s.groupsIn_nodup _) ((s.mem_recoveringGroups g).mpr ⟨hg, hr⟩) (by rw [hl]; exact hg) hc hp

theorem swept_line {l : Line} {s : State} (hl : l.current = none) (h : s.line = l.afterBeacon [])
    (claims : ∀ g ∈ s.recoveringGroups, ∃ c, (s.group g).claim = some c ∧ c.phase = .recovering) :
    (swept s).line = l.afterBeacon (s.recoveringGroups.map s.announcement) :=
  announces_line hl h (s.groupsIn_nodup _) claims

/-- What the first entry into LISTENING makes of a state without a PROPOSED group. -/
structure Listened (s t : State) : Prop where
  passes : Passes [.groups, .overrun, .sup, .beacon, .loop, .line, .events, .service] [] (fun _ => True) s t
  follows : s.events.Follows t.events
  sup : t.sup =
    { s.sup with
      mode := .listening, reason := .noReason, listen := some ((2 * s.figures.beacon + 1) * 60),
      silence := some (s.figures.silence * 60), fallback := none, clear := none }
  beacon : t.beacon = some s.figures.beacon
  loop : t.loop =
    { s.loop with
      a := s.loop.a.startSweep, b := s.loop.b.startSweep, sweepCountdown := some s.figures.sweepPeriod }
  latch : s.LatchFits → t.LatchFits
  draw : t.line.draw = s.line.draw
  line : s.line.waiting = [] → s.line.current = none → s.line.backlog = [] → s.ClaimLaw →
    t.line = s.line.afterBeacon (s.recoveringGroups.map s.announcement)
  others : ∀ g, (s.group g).state ≠ .recovering → t.group g = s.group g
  announced : s.ClaimLaw → s.groups.length = 24 → ∀ g, g < 24 → (s.group g).state = .recovering →
    t.group g = (s.group g).refreshing ∧ Waits (s.announcement g) t

theorem listened {s : State} (h : ∀ g, g < 24 → (s.group g).state ≠ .proposed) : Listened s (firstListening s) := by
  rw [firstListening_eq h]
  change Listened s (swept (opened s))
  have opens := opened_passes s
  have openFollows : s.events.Follows (opened s).events :=
    offerBeacon_follows { relistening s with beacon := some s.figures.beacon }
  have sup := opened_sup s
  have beacon := opened_beacon s
  have line := opened_line (s := s)
  have openDraw : (opened s).line.draw = s.line.draw := offerBeacon_draw _
  have group := opened_group s
  generalize opened s = o at *
  have sweep := swept_passes o
  have loop := swept_loop o
  rw [show o.loop = s.loop from opens.keeps .loop (by decide), show o.figures = s.figures from opens.keeps .figures (by decide)]
    at loop
  exact
    { passes :=
        (opens.mono (by decide) (by decide) fun _ k => k.elim).trans (sweep.mono (by decide) (by decide) fun _ k => k)
      follows := openFollows.trans (swept_follows o)
      sup := Eq.trans (sweep.keeps .sup (by decide)) sup
      beacon := Eq.trans (sweep.keeps .beacon (by decide)) beacon
      loop := loop
      latch := fun fits => (fits.of_standing (opens.keeps .overrun (by decide)) (opens.keeps .figures (by decide))
          (opens.keeps .view (by decide)) fun g => by rw [group]; exact ⟨rfl, rfl⟩).of_standing
        (sweep.keeps .overrun (by decide)) (sweep.keeps .figures (by decide)) (sweep.keeps .view (by decide)) (swept_standing o)
      draw := (announces_draw _ o).trans openDraw
      line := fun hw hc hb law => by
        rw [← State.recoveringGroups_of_groups group, ← State.announcement_of_groups group]
        exact swept_line hc (line hw hc hb) fun g hg =>
          (law.of_groups group).recovering ((o.mem_recoveringGroups g).mp hg).2
      others := fun g hg => (swept_group (by rw [group]; exact hg)).trans (group g)
      announced := fun law hl g hg hr => by
        obtain ⟨c, hc, hp⟩ := law.recovering hr
        have groups : o.groups = s.groups := opens.keeps .groups (by decide)
        rw [← State.announcement_of_groups group, ← group g]
        rw [← group g] at hr hc
        exact swept_announced hg (by rw [groups]; exact hl) hr hc hp }

/-! ### The end of a good load -/

/-- What a good load makes of the state once the figures are handed over. -/
structure Finished (s t : State) : Prop where
  keeps : Keeps [.groups, .lums, .overrun, .sup, .beacon, .loop, .line, .events, .service] s t
  noted : RestartNoted s t
  follows : s.events.Follows t.events
  aborted : s.events.cells.length = 26 → (∃ g, (g, Restored.storedTesting) ∈ s.loader.restored) →
    (t.events.cell Event.testAborted.number).raw = true ∧
      ∃ g, (g, Restored.storedTesting) ∈ s.loader.restored ∧
        (t.events.cell Event.testAborted.number).detail = groupDetail g
  timed : s.events.cells.length = 26 → s.calendar.valid = false → Occurs .timeInvalid noDetail s t
  quiet : ∀ e : Event, e ≠ .testAborted ∨ (∀ g, (g, Restored.storedTesting) ∉ s.loader.restored) →
    e ≠ .timeInvalid ∨ s.calendar.valid = true → e ≠ .loadOver → e ≠ .reportOverrun →
    t.events.cell e.number = s.events.cell e.number
  lums : t.lums = (s.loader.restored.foldl restoreTest s).lums
  sup : t.sup =
    { s.sup with
      mode := .listening, reason := .noReason, listen := some ((2 * s.figures.beacon + 1) * 60),
      silence := some (s.figures.silence * 60), fallback := none, clear := none }
  beacon : t.beacon = some s.figures.beacon
  loop : t.loop =
    { s.loop with
      a := s.loop.a.startSweep, b := s.loop.b.startSweep, sweepCountdown := some s.figures.sweepPeriod }
  latch : t.LatchFits
  draw : t.line.draw = s.line.draw
  line : s.line.waiting = [] → s.line.current = none → s.line.backlog = [] → s.ClaimLaw →
    t.line = s.line.afterBeacon (s.recoveringGroups.map s.announcement)
  others : ∀ g, (s.group g).state ≠ .recovering → t.group g = s.group g
  announced : s.ClaimLaw → s.groups.length = 24 → ∀ g, g < 24 → (s.group g).state = .recovering →
    t.group g = (s.group g).refreshing ∧ Waits (s.announcement g) t

/-- R91, R120, R48, R128: the end of a good load. -/
theorem finished {s : State} (h : ∀ g, g < 24 → (s.group g).state ≠ .proposed) : Finished s (firstListening (settled s)) := by
  have settle := settled_passes s
  have grow := settled_follows s
  have lums := settled_lums s
  have aborted := settled_aborted (s := s)
  have timed := settled_timed (s := s)
  have quiet := fun k => settled_quiet (s := s) (e := k)
  have fits : (settled s).LatchFits := evalOverrun_latchFits _
  have group : ∀ g, (settled s).group g = s.group g := State.group_of_groups (settle.keeps .groups (by decide))
  have listen := listened (s := settled s) fun g hg => by rw [group g]; exact h g hg
  generalize firstListening (settled s) = t at listen ⊢
  generalize settled s = e at *
  obtain ⟨passes, follows, sup, beacon, loop, latch, draw, line, others, announced⟩ := listen
  have cell : ∀ k : Event, k ≠ .reportOverrun → t.events.cell k.number = e.events.cell k.number := fun k =>
    passes.events.2 k List.not_mem_nil
  have whole : Passes [.groups, .lums, .overrun, .sup, .beacon, .loop, .line, .events, .service]
      [.testAborted, .timeInvalid, .loadOver] (fun _ => True) s t :=
    (settle.mono (by decide) (by decide) fun _ k => k.elim).trans (passes.mono (by decide) (by decide) fun _ k => k)
  rw [show e.figures = s.figures from settle.keeps .figures (by decide)] at sup beacon loop
  rw [show e.sup = s.sup from settle.keeps .sup (by decide)] at sup
  rw [show e.loop = s.loop from settle.keeps .loop (by decide)] at loop
  rw [show e.line = s.line from settle.keeps .line (by decide)] at draw line
  rw [show e.groups = s.groups from settle.keeps .groups (by decide)] at announced
  simp only [group, State.recoveringGroups_of_groups group, State.announcement_of_groups group] at line others announced
  exact
    { keeps := whole.keeps
      noted := whole.service
      follows := grow.trans follows
      aborted := fun hl hs => by
        rw [cell .testAborted (by decide)]
        exact aborted hl hs
      timed := fun hl hv => (timed hl hv).of_cell (cell .timeInvalid (by decide))
      quiet := fun k h1 h2 h3 h4 => (cell k h4).trans (quiet k h1 h2 h3 h4)
      lums := Eq.trans (passes.keeps .lums (by decide)) lums
      sup := sup, beacon := beacon, loop := loop, latch := latch fits, draw := draw
      line := fun hw hc hb law => line hw hc hb (law.of_groups group)
      others := others
      announced := fun law => announced (law.of_groups group) }

end Sys2Proof.Machine

namespace Sys2Proof.Machine

/-! ## The configured event unit's reports (R167) -/

/-- R167: the console that the second step of the configuration reports event `k` to. -/
def EventUnit.dueConsole (u : EventUnit) (k : Nat) : Option Byte := if (u.cell k).status = true then u.target k else none

/-- R167: the events that call for a report, each with its console, in ascending event number. -/
def EventUnit.duePairs (u : EventUnit) : List (Nat × Byte) :=
  (List.range 26).filterMap (fun k => (u.dueConsole k).map (fun a => (k, a)))

/-- R167: the report of an event to a console. -/
def EventUnit.reportTo (u : EventUnit) (minutes : Nat) (x : Nat × Byte) : Report :=
  { event := x.1, detail := (u.cell x.1).detail, minutes := minutes, console := x.2 }

theorem EventUnit.dueReport_eq (u : EventUnit) (minutes k : Nat) :
    u.dueReport minutes k = ((u.dueConsole k).map (fun a => (k, a))).map (u.reportTo minutes) := by
  unfold EventUnit.dueReport EventUnit.dueConsole EventUnit.reportFor
  split
  · rw [Option.map_map]
    rfl
  · rfl

theorem EventUnit.duePairs_reports (u : EventUnit) (minutes : Nat) :
    (List.range 26).filterMap (u.dueReport minutes) = u.duePairs.map (u.reportTo minutes) := by
  rw [EventUnit.duePairs, List.map_filterMap]
  exact List.filterMap_congr fun k _ => u.dueReport_eq minutes k

theorem EventUnit.mem_duePairs (u : EventUnit) (k : Nat) (a : Byte) :
    (k, a) ∈ u.duePairs ↔ k < 26 ∧ u.dueConsole k = some a := by
  simp only [EventUnit.duePairs, List.mem_filterMap, List.mem_range, Option.map_eq_some_iff, Prod.mk.injEq]
  constructor
  · rintro ⟨_, hk, _, ha, rfl, rfl⟩
    exact ⟨hk, ha⟩
  · exact fun ⟨hk, ha⟩ => ⟨k, hk, a, ha, rfl, rfl⟩

theorem EventUnit.duePairs_sorted (u : EventUnit) : u.duePairs.Pairwise (fun x y => x.1 < y.1) := by
  refine List.pairwise_lt_range.filterMap _ fun j k lt x hx y hy => ?_
  obtain ⟨_, -, rfl⟩ := Option.map_eq_some_iff.mp hx
  obtain ⟨_, -, rfl⟩ := Option.map_eq_some_iff.mp hy
  exact lt

/-- The events due are determined by their members and their order. -/
theorem EventUnit.eq_duePairs {u : EventUnit} {due : List (Nat × Byte)}
    (mem : ∀ k a, (k, a) ∈ due ↔ k < 26 ∧ u.dueConsole k = some a) (sorted : due.Pairwise (fun x y => x.1 < y.1)) :
    due = u.duePairs := by
  have nodup : ∀ l : List (Nat × Byte), l.Pairwise (fun x y => x.1 < y.1) → l.Nodup := fun l h =>
    h.imp fun lt e => absurd (congrArg Prod.fst e) (Nat.ne_of_lt lt)
  have perm : due.Perm u.duePairs :=
    (List.perm_ext_iff_of_nodup (nodup _ sorted) (nodup _ u.duePairs_sorted)).mpr fun x =>
      (mem x.1 x.2).trans (u.mem_duePairs x.1 x.2).symm
  exact perm.eq_of_pairwise (fun x y _ _ lt gt => absurd (Nat.lt_trans lt gt) (Nat.lt_irrefl _)) sorted u.duePairs_sorted

theorem EventUnit.dueConsole_configure {u : EventUnit} (f : Figures) {k : Nat} (h : k < u.cells.length) (a : Byte) :
    (u.configure f).dueConsole k = some a ↔
      (u.cell k).status = true ∧ f.mask.getD k false = false ∧
        ∃ i, f.selection.getD k none = some i ∧ (f.destinations.getD i ConsoleEntry.off).on = true ∧
          (f.destinations.getD i ConsoleEntry.off).address = a := by
  have destinations : (u.configure f).destinations = f.destinations := rfl
  unfold EventUnit.dueConsole EventUnit.target
  rw [EventUnit.cell_configure u f h, destinations]
  cases (u.cell k).status <;> cases f.mask.getD k false <;> cases f.selection.getD k none <;> simp

/-- R167: the reports of a configured unit, as far as there is room for those due. -/
theorem EventUnit.configure_reports {u v : EventUnit} {f : Figures} {minutes : Nat} (hl : u.cells.length = 26)
    (follows : ((u.configure f).reportAll minutes).Follows v) {due : List (Nat × Byte)}
    (mem : ∀ k a, (k, a) ∈ due ↔ k < 26 ∧ (u.cell k).status = true ∧ f.mask.getD k false = false ∧
      ∃ i, f.selection.getD k none = some i ∧ (f.destinations.getD i ConsoleEntry.off).on = true ∧
        (f.destinations.getD i ConsoleEntry.off).address = a)
    (sorted : due.Pairwise (fun x y => x.1 < y.1)) (room : u.reports.length + due.length ≤ 8) :
    u.reports ++ due.map (u.reportTo minutes) <+: v.reports := by
  have pairs : due = (u.configure f).duePairs := EventUnit.eq_duePairs (fun k a => by
    rw [mem]
    exact and_congr_right fun hk => (EventUnit.dueConsole_configure f (by rw [hl]; exact hk) a).symm) sorted
  have detail : ∀ x ∈ due, (u.configure f).reportTo minutes x = u.reportTo minutes x := fun x hx => by
    have hk : x.1 < 26 := ((mem x.1 x.2).mp hx).1
    unfold EventUnit.reportTo
    rw [EventUnit.cell_configure u f (by rw [hl]; exact hk)]
  have reports := (u.configure f).duePairs_reports minutes
  rw [← pairs, List.map_congr_left detail] at reports
  have placed := EventUnit.reportAll_reports (u := u.configure f) (minutes := minutes)
    (by rw [reports, List.length_map]; exact room)
  rw [reports] at placed
  rw [show u.reports ++ due.map (u.reportTo minutes) = ((u.configure f).reportAll minutes).reports from placed.symm]
  exact follows.reports

/-- R167, R168: a cell of the configured unit after occurrences. -/
theorem EventUnit.configure_cell {u v : EventUnit} {f : Figures} {k : Nat} (hk : k < u.cells.length)
    (follows : (u.configure f).Follows v) :
    (v.cell k).mask = f.mask.getD k false ∧ (v.cell k).push = f.selection.getD k none ∧
      ((u.cell k).raw = true → (v.cell k).raw = true) ∧ (f.mask.getD k false = true → (v.cell k).status = false) ∧
      (f.mask.getD k false = false → (u.cell k).status = true → (v.cell k).status = true) := by
  obtain ⟨⟨mask, push, status, raw⟩, kept⟩ := follows.cells k
  rw [EventUnit.cell_configure u f hk] at mask push status raw kept
  refine ⟨mask, push, raw, fun hm => ?_, fun hm hs => kept (by rw [hs, hm]; rfl)⟩
  rw [mask, hm] at status
  simpa using status

end Sys2Proof.Machine

namespace Sys2Proof.Machine

theorem drawSeed_eq (a : Nat) : drawSeed a = BitVec.ofNat 16 (a * 256 + a) := by
  unfold drawSeed
  rw [show a * 257 = a * 256 + a by omega]

/-! ## The end of a load without a good configuration (R126, R127) -/

/-- R127: the station UNCONFIGURED, its events not yet raised. -/
def unconfigured (s : State) : State :=
  { s with
    calendar := { s.calendar with valid := false }
    sup := { s.sup with mode := .unconfigured, address := some 223 }
    line := { s.line with draw := some (drawSeed 223) } }

theorem loadedBad_eq (s : State) :
    loadedBad s = raise .timeInvalid noDetail (raise .configInvalid noDetail (unconfigured s)) := by
  show reportTime (raise .configInvalid noDetail (unconfigured s)) = _
  exact if_neg Bool.false_ne_true

theorem loadedBad_keeps (s : State) : Keeps [.sup, .calendar, .line, .events] s (loadedBad s) := by
  have start : Keeps [.sup, .calendar, .line, .events] s (unconfigured s) := fun p h => by
    cases p <;> first | rfl | simp at h
  rw [loadedBad_eq]
  exact (start.trans ((raise_keeps _ _ _).mono (by decide))).trans ((raise_keeps _ _ _).mono (by decide))

theorem loadedBad_eventsKept (s : State) : EventsKept [.configInvalid, .timeInvalid] s (loadedBad s) := by
  have start : EventsKept [.configInvalid, .timeInvalid] s (unconfigured s) := .of_events rfl
  rw [loadedBad_eq]
  exact (start.trans ((raise_eventsKept _ _ _).mono (by decide))).trans ((raise_eventsKept _ _ _).mono (by decide))

theorem loadedBad_occurs {s : State} (hl : s.events.cells.length = 26) :
    Occurs .configInvalid noDetail s (loadedBad s) ∧ Occurs .timeInvalid noDetail s (loadedBad s) := by
  have config : Occurs .configInvalid noDetail s (raise .configInvalid noDetail (unconfigured s)) :=
    raise_occurs .configInvalid noDetail (unconfigured s) (by show _ < s.events.cells.length; rw [hl]; decide) (by decide)
  have grow : s.events.Follows (raise .configInvalid noDetail (unconfigured s)).events := raise_follows _ _ (unconfigured s)
  rw [loadedBad_eq]
  generalize raise .configInvalid noDetail (unconfigured s) = u at config grow ⊢
  refine ⟨config.of_cell ((raise_eventsKept _ _ u).2 .configInvalid (by decide) (by decide)), ?_⟩
  exact (raise_occurs .timeInvalid noDetail u (by rw [grow.length, hl]; decide) (by decide)).after_growth (by decide)
    fun e _ => (grow.cells e.number).grows

/-- R127: the supervisor, the calendar, the line and the memory lines of an UNCONFIGURED station. -/
theorem loadedBad_spec (s : State) :
    (loadedBad s).sup = { s.sup with mode := .unconfigured, address := some 223 } ∧
      (loadedBad s).calendar = { s.calendar with valid := false } ∧ (loadedBad s).memoryReleased = true ∧
      (loadedBad s).line = { s.line with draw := some (BitVec.ofNat 16 (223 * 256 + 223)) } := by
  rw [loadedBad_eq]
  exact ⟨rfl, rfl, rfl, rfl⟩

/-! ## The end of a load with a good configuration (R126) -/

/-! ### The figures handed over (R154) -/

theorem handOver_events (f : Figures) (s : State) :
    (handOver f s).events = (s.events.configure f).reportAll s.calendar.minutes := rfl

theorem handOver_keeps (f : Figures) (s : State) : Keeps [.figures, .sup, .line, .service, .events] s (handOver f s) :=
  fun p h => by cases p <;> first | rfl | simp at h

/-- R167: the cell of an event other than REPORT_OVERRUN, once configured. -/
theorem handOver_cell {f : Figures} {s : State} (hl : s.events.cells.length = 26) {e : Event} (he : e ≠ .reportOverrun) :
    (handOver f s).events.cell e.number =
      { s.events.cell e.number with
        mask := f.mask.getD e.number false, push := f.selection.getD e.number none
        status := (s.events.cell e.number).status && !f.mask.getD e.number false } := by
  rw [handOver_events, EventUnit.reportAll_cell _ _ (mt Event.number_inj.mp he),
    EventUnit.cell_configure _ f (by rw [hl]; exact Event.number_lt e)]

/-- R178: the mark over the hand-over and the steps after it. -/
theorem RestartNoted.after_handOver {f : Figures} {s t : State} (h : RestartNoted (handOver f s) t) :
    t.service = { s.service with authorised := f.authorised, replyGone := s.restartGone t } := h

theorem handOver_length (f : Figures) (a : State) : (handOver f a).events.cells.length = a.events.cells.length := by
  rw [handOver_events, (EventUnit.reportAll_follows _ _).length]
  exact List.length_mapIdx ..

/-! ### The last record taken (R157) -/

/-- What the last luminaire record makes of the state, where the configuration is good. -/
structure LastRead (bytes : List Byte) (s a : State) : Prop where
  keeps : Keeps [.loader, .lums, .events] s a
  loader : a.loader = { s.loader with next := .done }
  others : ∀ n, n ≠ 127 → a.lum n = s.lum n
  lum : a.lum 127 = (s.lum 127).restoredFrom (LumRecord.read bytes)
  length : a.lums.length = 128
  follows : s.events.Follows a.events
  kept : EventsKept [.recordCrcError] s a
  unraised : crc16Good bytes = true ∨ (¬ ∃ g, g < 24 ∧ 127 ∈ (s.group g).defn.members) → a.events = s.events
  raised : crc16Good bytes = false → (∃ g, g < 24 ∧ 127 ∈ (s.group g).defn.members) →
    Occurs .recordCrcError (lumDetail 127) s a

theorem lastRead_spec {s : State} {f : Figures} (hf : s.loader.figures = some f) (hn : s.loader.next = .lumRecord 127)
    (hl : s.lums.length = 128) (hc : s.events.cells.length = 26) (bytes : List Byte) :
    LastRead bytes s (lastRead bytes s) := by
  have loader := lastRead_loader hn bytes
  rw [lastRead_good hf] at loader ⊢
  have lums := restoreLum_lums 127 (LumRecord.read bytes) s
  have lum : ∀ n, (restoreLum 127 (LumRecord.read bytes) s).lum n =
      (s.modLum 127 (Lum.restoredFrom (LumRecord.read bytes))).lum n := fun n => by
    unfold State.lum
    rw [lums]
  exact
    { keeps := ((restoreLum_keeps 127 _ s).mono (by decide)).trans ((advanceLoader_keeps _).mono (by decide))
      loader := loader
      others := fun n ne => (lum n).trans (s.lum_modLum_ne _ _ _ ne)
      lum := (lum 127).trans (s.lum_modLum 127 _ (by rw [hl]; decide))
      length := by
        show (restoreLum 127 (LumRecord.read bytes) s).lums.length = 128
        rw [lums, State.modLum_lums_length, hl]
      follows := restoreLum_follows 127 _ s
      kept := restoreLum_eventsKept 127 _ s
      unraised := fun h => restoreLum_events (h.imp_left fun good => by rw [LumRecord.read_good good]; nofun)
      raised := fun bad member => by
        rw [LumRecord.read_damaged bad]
        exact restoreLum_raised hc member }

/-! ### The luminaires (R91) -/

theorem Finished.lum {s t : State} (h : Finished s t) {m : Nat} (hm : m < s.lums.length) :
    ((∃ g, (g, Restored.storedTesting) ∈ s.loader.restored ∧ m ∈ (s.group g).defn.members) → t.lum m = (s.lum m).restartAborted) ∧
    ((¬ ∃ g, (g, Restored.storedTesting) ∈ s.loader.restored ∧ m ∈ (s.group g).defn.members) → t.lum m = s.lum m) := by
  have same : t.lum m = (s.loader.restored.foldl restoreTest s).lum m := by
    unfold State.lum
    rw [h.lums]
  rw [same]
  exact restoreTests_lum _ hm

/-- R126: the load that ends with good figures. -/
theorem endLoading_finished {a : State} {f : Figures} (hf : a.loader.figures = some f)
    (h : ∀ g, g < 24 → (a.group g).state ≠ .proposed) : Finished (handOver f a) (endLoading a) := by
  rw [endLoading_good hf]
  exact finished (s := handOver f a) h

/-! ### The whole end of a good load -/

section
variable {bytes : List Byte} {f : Figures} {s a t : State}

theorem LastRead.group (last : LastRead bytes s a) (g : Nat) : a.group g = s.group g :=
  State.group_of_groups (last.keeps .groups (by decide)) g

theorem LastRead.restored (last : LastRead bytes s a) : (handOver f a).loader.restored = s.loader.restored := by
  show a.loader.restored = _
  rw [last.loader]

theorem Finished.loaded_keeps (fin : Finished (handOver f a) t) (last : LastRead bytes s a) :
    Keeps [.loader, .mem, .figures, .service, .sup, .beacon, .loop, .line, .groups, .lums, .events, .overrun] s t :=
  ((last.keeps.mono (by decide)).trans ((handOver_keeps f a).mono (by decide))).trans (fin.keeps.mono (by decide))

theorem Finished.loaded_service (fin : Finished (handOver f a) t) (last : LastRead bytes s a) :
    t.service = { s.service with authorised := f.authorised, replyGone := s.restartGone t } := by
  have noted := fin.noted.after_handOver
  unfold State.restartGone at noted ⊢
  rw [show a.service = s.service from last.keeps .service (by decide), show a.line = s.line from last.keeps .line (by decide)]
    at noted
  exact noted

theorem Finished.loaded_loader (fin : Finished (handOver f a) t) (last : LastRead bytes s a) :
    t.loader = { s.loader with next := .done } := (fin.keeps .loader (by decide) : t.loader = a.loader).trans last.loader

theorem Finished.loaded_mem (fin : Finished (handOver f a) t) (last : LastRead bytes s a) : t.mem = s.mem :=
  (fin.keeps .mem (by decide) : t.mem = a.mem).trans (last.keeps .mem (by decide))

theorem Finished.loaded_draw (fin : Finished (handOver f a) t) :
    t.line.draw = some (BitVec.ofNat 16 (f.address * 256 + f.address)) := by
  rw [fin.draw, ← drawSeed_eq]
  rfl

theorem Finished.loaded_sup (fin : Finished (handOver f a) t) (last : LastRead bytes s a) :
    t.sup =
      { mode := .listening, reason := .noReason, address := some f.address, listen := some ((2 * f.beacon + 1) * 60),
        silence := some (f.silence * 60), fallback := none, clear := none, isolations := s.sup.isolations } := by
  have sup := fin.sup
  rw [show (handOver f a).sup = { s.sup with address := some f.address } by
    rw [← (last.keeps .sup (by decide) : a.sup = s.sup)]
    rfl] at sup
  exact sup

/-- R158: the memory lines are released in UNCONFIGURED alone. -/
theorem Finished.loaded_unreleased (fin : Finished (handOver f a) t) (last : LastRead bytes s a) : t.memoryReleased = false := by
  unfold State.memoryReleased
  rw [fin.loaded_sup last]
  rfl

theorem Finished.loaded_loop (fin : Finished (handOver f a) t) (last : LastRead bytes s a) :
    t.loop =
      { s.loop with
        sweepCountdown := some f.sweepPeriod
        a := { s.loop.a with sweep := some (s.loop.a.sweep.getD 0) }
        b := { s.loop.b with sweep := some (s.loop.b.sweep.getD 0) } } := by
  have loop := fin.loop
  rw [show (handOver f a).loop = s.loop from last.keeps .loop (by decide)] at loop
  exact loop

/-- R91: a luminaire before the restart's ends, and after. -/
theorem Finished.loaded_lum (fin : Finished (handOver f a) t) (last : LastRead bytes s a) {m : Nat} (hm : m < 128) :
    ((∃ g, (g, Restored.storedTesting) ∈ s.loader.restored ∧ m ∈ (s.group g).defn.members) →
      t.lum m = (a.lum m).restartAborted) ∧
    ((¬ ∃ g, (g, Restored.storedTesting) ∈ s.loader.restored ∧ m ∈ (s.group g).defn.members) → t.lum m = a.lum m) := by
  have lum := fin.lum (m := m) (by rw [show (handOver f a).lums = a.lums from rfl, last.length]; exact hm)
  have group : ∀ g, (handOver f a).group g = s.group g := last.group
  rw [last.restored] at lum
  simp only [group] at lum
  exact lum

theorem Finished.loaded_otherLum (fin : Finished (handOver f a) t) (last : LastRead bytes s a) {n : Nat} (hn : n < 127) :
    ((∃ g, (g, Restored.storedTesting) ∈ s.loader.restored ∧ n ∈ (s.group g).defn.members) →
      t.lum n = (s.lum n).restartAborted) ∧
    ((¬ ∃ g, (g, Restored.storedTesting) ∈ s.loader.restored ∧ n ∈ (s.group g).defn.members) → t.lum n = s.lum n) := by
  rw [← last.others n (Nat.ne_of_lt hn)]
  exact fin.loaded_lum last (Nat.lt_succ_of_lt hn)

/-- R91, R157: the luminaire of the last record, its test and the END it is owed apart. -/
theorem Finished.loaded_lastLum (fin : Finished (handOver f a) t) (last : LastRead bytes s a) :
    ∃ test owed, t.lum 127 = { (s.lum 127).restoredFrom (LumRecord.read bytes) with test := test, endOwed := owed } ∧
      ((∃ g, (g, Restored.storedTesting) ∈ s.loader.restored ∧ 127 ∈ (s.group g).defn.members) →
        test = .aborted ∧ owed = (s.lum 127).branch.isSome) ∧
      ((¬ ∃ g, (g, Restored.storedTesting) ∈ s.loader.restored ∧ 127 ∈ (s.group g).defn.members) →
        test = (s.lum 127).test ∧ owed = (s.lum 127).endOwed) := by
  obtain ⟨ended, spared⟩ := fin.loaded_lum last (m := 127) (by decide)
  rw [last.lum] at ended spared
  by_cases h : ∃ g, (g, Restored.storedTesting) ∈ s.loader.restored ∧ 127 ∈ (s.group g).defn.members
  · exact ⟨_, _, ended h, fun _ => ⟨rfl, congrArg Option.isSome (Lum.restoredFrom_branch _ _)⟩, fun k => absurd h k⟩
  · exact ⟨_, _, spared h, fun k => absurd k h, fun _ => ⟨Lum.restoredFrom_test _ _, Lum.restoredFrom_endOwed _ _⟩⟩

theorem Finished.lastLum_frame (fin : Finished (handOver f a) t) (last : LastRead bytes s a) :
    t.lum 127 =
      { s.lum 127 with
        test := (t.lum 127).test, endOwed := (t.lum 127).endOwed, dirty := (t.lum 127).dirty, record := (t.lum 127).record } := by
  obtain ⟨test, owed, lum, -, -⟩ := fin.loaded_lastLum last
  rw [lum]
  cases LumRecord.read bytes <;> rfl

theorem Finished.lastLum_aborted (fin : Finished (handOver f a) t) (last : LastRead bytes s a)
    (h : ∃ g, (g, Restored.storedTesting) ∈ s.loader.restored ∧ 127 ∈ (s.group g).defn.members) :
    (t.lum 127).test = .aborted ∧ (t.lum 127).endOwed = (s.lum 127).branch.isSome := by
  obtain ⟨test, owed, lum, ended, -⟩ := fin.loaded_lastLum last
  rw [lum]
  exact ended h

theorem Finished.lastLum_spared (fin : Finished (handOver f a) t) (last : LastRead bytes s a)
    (h : ¬ ∃ g, (g, Restored.storedTesting) ∈ s.loader.restored ∧ 127 ∈ (s.group g).defn.members) :
    (t.lum 127).test = (s.lum 127).test ∧ (t.lum 127).endOwed = (s.lum 127).endOwed := by
  obtain ⟨test, owed, lum, -, spared⟩ := fin.loaded_lastLum last
  rw [lum]
  exact spared h

theorem Finished.lastLum_good (fin : Finished (handOver f a) t) (last : LastRead bytes s a) (good : crc16Good bytes = true) :
    (t.lum 127).dirty = (s.lum 127).dirty ∧
      (t.lum 127).record =
        { time := timeOf (fieldAt bytes 0 4), result := LResult.ofCode (byteAt bytes 4), achieved := byteAt bytes 5,
          volts := bytes.getD 6 0#8, faults := bytes.getD 7 0#8,
          next := if byteAt bytes 8 ≤ 7 then byteAt bytes 8 else 0, count := min 8 (byteAt bytes 9) } := by
  obtain ⟨test, owed, lum, -, -⟩ := fin.loaded_lastLum last
  rw [lum, LumRecord.read_good good]
  exact ⟨rfl, rfl⟩

theorem Finished.lastLum_damaged (fin : Finished (handOver f a) t) (last : LastRead bytes s a)
    (damaged : crc16Good bytes = false) : (t.lum 127).dirty = true ∧ (t.lum 127).record = LumRecord.empty := by
  obtain ⟨test, owed, lum, -, -⟩ := fin.loaded_lastLum last
  rw [lum, LumRecord.read_damaged damaged]
  exact ⟨rfl, rfl⟩

theorem Finished.loaded_aborted (fin : Finished (handOver f a) t) (last : LastRead bytes s a)
    (hc : s.events.cells.length = 26) (h : ∃ g, (g, Restored.storedTesting) ∈ s.loader.restored) :
    (t.events.cell Event.testAborted.number).raw = true ∧
      ∃ g, (g, Restored.storedTesting) ∈ s.loader.restored ∧
        (t.events.cell Event.testAborted.number).detail = groupDetail g := by
  have aborted := fin.aborted (by rw [handOver_length, last.follows.length, hc])
  rw [last.restored] at aborted
  exact aborted h

/-- R167: the configured event unit, and what the steps after it make of it. -/
theorem Finished.configured_follows (fin : Finished (handOver f a) t) : (a.events.configure f).Follows t.events :=
  (EventUnit.reportAll_follows _ _).trans fin.follows

theorem Finished.loaded_cell (fin : Finished (handOver f a) t) (last : LastRead bytes s a) (hc : s.events.cells.length = 26)
    {k : Nat} (hk : k < 26) :
    (t.events.cell k).mask = f.mask.getD k false ∧ (t.events.cell k).push = f.selection.getD k none ∧
      ((s.events.cell k).raw = true → (t.events.cell k).raw = true) ∧
      (f.mask.getD k false = true → (t.events.cell k).status = false) ∧
      (f.mask.getD k false = false → (s.events.cell k).status = true → (t.events.cell k).status = true) := by
  obtain ⟨mask, push, raw, masked, kept⟩ :=
    EventUnit.configure_cell (k := k) (by rw [last.follows.length, hc]; exact hk) fin.configured_follows
  have before := last.follows.cells k
  exact ⟨mask, push, fun h => raw (before.grows.raw h), masked, fun hm hs => kept hm (before.status hs)⟩

/-- R157: the damaged record of a member has raised RECORD_CRC_ERROR. -/
theorem Finished.loaded_raised (fin : Finished (handOver f a) t) (last : LastRead bytes s a) (hc : s.events.cells.length = 26)
    (damaged : crc16Good bytes = false) (member : ∃ g, g < 24 ∧ 127 ∈ (s.group g).defn.members) :
    (t.events.cell Event.recordCrcError.number).raw = true := by
  have occurs := last.raised damaged member
  unfold Occurs at occurs
  have raw := (EventUnit.configure_cell (k := Event.recordCrcError.number) (by rw [last.follows.length, hc]; decide)
    fin.configured_follows).2.2.1
  exact raw (by rw [occurs])

theorem Finished.loaded_untouched (fin : Finished (handOver f a) t) (last : LastRead bytes s a)
    (hc : s.events.cells.length = 26) (e : Event) (time : e ≠ .timeInvalid ∨ s.calendar.valid = true)
    (record : e ≠ .recordCrcError ∨ crc16Good bytes = true ∨ ¬ ∃ g, g < 24 ∧ 127 ∈ (s.group g).defn.members)
    (tests : e ≠ .testAborted ∨ ∀ g, (g, Restored.storedTesting) ∉ s.loader.restored) (ho : e ≠ .loadOver)
    (hr : e ≠ .reportOverrun) :
    t.events.cell e.number =
      { s.events.cell e.number with
        mask := f.mask.getD e.number false, push := f.selection.getD e.number none
        status := (s.events.cell e.number).status && !f.mask.getD e.number false } := by
  have calendar : (handOver f a).calendar = s.calendar := last.keeps .calendar (by decide)
  have before : a.events.cell e.number = s.events.cell e.number := by
    rcases record with h | h
    · exact last.kept.2 e (by simpa using h) hr
    · rw [last.unraised h]
  rw [fin.quiet e (by rw [last.restored]; exact tests) (by rw [calendar]; exact time) ho hr,
    handOver_cell (last.follows.length.trans hc) hr, before]

theorem Finished.loaded_time (fin : Finished (handOver f a) t) (last : LastRead bytes s a) (hc : s.events.cells.length = 26)
    (hv : s.calendar.valid = false) :
    (t.events.cell Event.timeInvalid.number).raw = true ∧ (t.events.cell Event.timeInvalid.number).detail = noDetail ∧
      (f.mask.getD Event.timeInvalid.number false = false → (t.events.cell Event.timeInvalid.number).status = true) := by
  have calendar : (handOver f a).calendar = s.calendar := last.keeps .calendar (by decide)
  have cell := handOver_cell (f := f) (s := a) (last.follows.length.trans hc) (e := .timeInvalid) (by decide)
  have occurs := fin.timed (by rw [handOver_length, last.follows.length, hc]) (by rw [calendar]; exact hv)
  unfold Occurs at occurs
  rw [cell] at occurs
  rw [occurs]
  refine ⟨rfl, rfl, fun hm => ?_⟩
  show (_ || !f.mask.getD Event.timeInvalid.number false) = true
  rw [hm]
  exact Bool.or_true _

theorem Finished.loaded_destinations (fin : Finished (handOver f a) t) : t.events.destinations = f.destinations :=
  fin.configured_follows.destinations

/-- R167: the reports due at the end of the load. -/
theorem Finished.loaded_reports (fin : Finished (handOver f a) t) (last : LastRead bytes s a) (hc : s.events.cells.length = 26)
    (unraised : crc16Good bytes = true ∨ ¬ ∃ g, g < 24 ∧ 127 ∈ (s.group g).defn.members) {due : List (Nat × Byte)}
    (mem : ∀ k a, (k, a) ∈ due ↔ k < 26 ∧ (s.events.cell k).status = true ∧ f.mask.getD k false = false ∧
      ∃ i, f.selection.getD k none = some i ∧ (f.destinations.getD i ConsoleEntry.off).on = true ∧
        (f.destinations.getD i ConsoleEntry.off).address = a)
    (sorted : due.Pairwise (fun x y => x.1 < y.1)) (room : s.events.reports.length + due.length ≤ 8) :
    s.events.reports ++ due.map (s.events.reportTo s.calendar.minutes) <+: t.events.reports := by
  have before : a.events = s.events := last.unraised unraised
  have calendar : a.calendar = s.calendar := last.keeps .calendar (by decide)
  have follows := fin.follows
  rw [handOver_events, before, calendar] at follows
  exact EventUnit.configure_reports hc follows mem sorted room

theorem Finished.loaded_latch (fin : Finished (handOver f a) t) (last : LastRead bytes s a) :
    t.overrun = true ↔ (∃ g, g < 24 ∧ (t.group g).state.past = true) ∧ f.cap < s.viewLoad + t.ownWeight := by
  have latch := fin.latch
  unfold State.LatchFits State.viewLoad at latch
  rw [show t.figures = f from fin.keeps .figures (by decide),
    show t.view = s.view from (fin.keeps .view (by decide) : t.view = a.view).trans (last.keeps .view (by decide))] at latch
  exact latch

theorem LastRead.handed (last : LastRead bytes s a) (g : Nat) : (handOver f a).group g = s.group g := last.group g

/-- R31, R45, R147: the line, where it held no frame. -/
theorem Finished.loaded_line (fin : Finished (handOver f a) t) (last : LastRead bytes s a) (law : s.ClaimLaw)
    (hw : s.line.waiting = []) (hcur : s.line.current = none) (hb : s.line.backlog = []) :
    t.line =
      { s.line with
        draw := t.line.draw
        waiting :=
          if s.recoveringGroups.length < 12 then .beacon :: s.recoveringGroups.map s.announcement
          else (s.recoveringGroups.map s.announcement).take 12
        backlog := (s.recoveringGroups.map s.announcement).drop 12 } := by
  have line : a.line = s.line := last.keeps .line (by decide)
  have handed : (handOver f a).line = { s.line with draw := some (drawSeed f.address) } := by
    rw [← line]
    rfl
  have queue := fin.line (by rw [handed]; exact hw) (by rw [handed]; exact hcur) (by rw [handed]; exact hb) (law.of_groups last.handed)
  rw [handed, State.recoveringGroups_of_groups last.handed, State.announcement_of_groups last.handed] at queue
  rw [queue, Line.afterBeacon, List.length_map]

theorem Finished.loaded_others (fin : Finished (handOver f a) t) (last : LastRead bytes s a) {g : Nat}
    (h : (s.group g).state ≠ .recovering) : t.group g = s.group g := by
  have same : (handOver f a).group g = s.group g := last.group g
  rw [fin.others g (by rw [same]; exact h), same]

theorem Finished.loaded_announced (fin : Finished (handOver f a) t) (last : LastRead bytes s a) (law : s.ClaimLaw)
    (hl : s.groups.length = 24) {g : Nat} (hg : g ∈ s.recoveringGroups) :
    Waits (s.announcement g) t ∧
      ∃ c, (s.group g).claim = some c ∧ t.group g = { s.group g with claim := some { c with refresh := some 60 } } := by
  obtain ⟨lt, recovering⟩ := (s.mem_recoveringGroups g).mp hg
  have same : (handOver f a).group g = s.group g := last.handed g
  have groups : (handOver f a).groups = s.groups := last.keeps .groups (by decide)
  obtain ⟨group, waits⟩ := fin.announced (law.of_groups last.handed) (by rw [groups]; exact hl) g lt (by rw [same]; exact recovering)
  obtain ⟨c, hc, -⟩ := law.recovering recovering
  rw [State.announcement_of_groups last.handed] at waits
  refine ⟨waits, c, hc, ?_⟩
  rw [group, same, Group.refreshing, hc]
  rfl

end

end Sys2Proof.Machine

namespace Sys2Proof.Machine

/-! ## O30: how LOADING ends -/

/-- The steps' parts, counted from the state that the read found. -/
theorem setNvm_keeps_trans {ps : List Part} {v : Memory} {s t : State} (hm : .mem ∈ ps) (h : Keeps ps (s.setNvm v) t) :
    Keeps ps s t := ((setNvm_keeps v s).mono fun p hp => by rw [List.mem_singleton.mp hp]; exact hm).trans h

/-- Settles O30. -/
theorem loadEndsInListeningOrUnconfigured : Obligations.LoadEndsInListeningOrUnconfigured := by
  refine ⟨storedCodes, fun s answer ms hp hm hl tables law proposals => ?_⟩
  intro read bytes aborted member restored announced
  have noneProposed : ∀ g, g < 24 → (s.group g).state ≠ .proposed := fun g hg proposed => by
    rcases proposals g hg proposed with h | h <;> cases hm.symm.trans h
  let u : State := (s.atMs ms).setNvm read.1
  have run : exec (.luminaireRecordRead answer ms) s = .next (relight s (endLoading (lastRead bytes u))) :=
    (exec_luminaireRecordRead hp hm hl answer ms).trans
      (congrArg (fun t => Host.Outcome.next (relight s t)) (lumRead_last (s := u) hl bytes))
  refine ⟨_, run, ?_⟩
  cases hf : s.loader.figures with
  | some f =>
    have last : LastRead bytes u (lastRead bytes u) := lastRead_spec (s := u) hf hl tables.lums tables.cells bytes
    have fin : Finished (handOver f (lastRead bytes u)) (endLoading (lastRead bytes u)) :=
      endLoading_finished (by rw [last.loader]; exact hf) fun g hg => by rw [last.group]; exact noneProposed g hg
    generalize lastRead bytes u = a at last fin ⊢
    generalize endLoading a = t at fin ⊢
    refine ⟨fin.loaded_loader (s := u) last, fin.loaded_keeps last .clock (by decide), fin.loaded_mem (s := u) last, fun f' e => ?_, nofun⟩
    cases e
    exact ⟨(setNvm_keeps_trans (by decide) (fin.loaded_keeps last)).relight, fin.keeps .figures (by decide),
      fin.loaded_keeps last .calendar (by decide), fin.loaded_service (s := u) last, fin.loaded_loop (s := u) last,
      fin.loaded_sup (s := u) last, fin.beacon, fin.loaded_draw, fin.loaded_unreleased last,
      fun n hn => fin.loaded_otherLum (s := u) last hn, fin.lastLum_frame (s := u) last, fin.lastLum_aborted (s := u) last,
      fin.lastLum_spared (s := u) last, fin.lastLum_good (s := u) last,
      fun damaged => ⟨(fin.lastLum_damaged last damaged).1, (fin.lastLum_damaged last damaged).2,
        fin.loaded_raised (s := u) last tables.cells damaged⟩,
      fin.loaded_aborted (s := u) last tables.cells, fin.loaded_time (s := u) last tables.cells,
      fin.loaded_untouched (s := u) last tables.cells, fin.loaded_destinations,
      fun k hk => fin.loaded_cell (s := u) last tables.cells hk,
      fun unraised due mem sorted room => fin.loaded_reports (s := u) last tables.cells unraised mem sorted room,
      fin.loaded_latch (s := u) last, fin.loaded_line (s := u) last law, fun g hg => fin.loaded_others (s := u) last hg,
      fun g hg => fin.loaded_announced (s := u) last law tables.groups hg⟩
  | none =>
    have loader : (lastRead bytes u).loader = { s.loader with next := .done } := lastRead_loader (s := u) hl bytes
    rw [lastRead_bad (s := u) hf] at loader ⊢
    rw [endLoading_bad (s := advanceLoader u) hf]
    have keeps : Keeps [.loader, .mem, .sup, .calendar, .line, .events] (s.atMs ms) (loadedBad (advanceLoader u)) :=
      setNvm_keeps_trans (v := read.1) (by decide)
        (((advanceLoader_keeps u).mono (by decide)).trans ((loadedBad_keeps _).mono (by decide)))
    obtain ⟨sup, calendar, released, line⟩ := loadedBad_spec (advanceLoader u)
    obtain ⟨config, time⟩ := loadedBad_occurs (s := advanceLoader u) tables.cells
    exact ⟨(loadedBad_keeps _ .loader (by decide)).trans loader, keeps .clock (by decide),
      loadedBad_keeps (advanceLoader u) .mem (by decide), nofun, fun _ =>
        ⟨sup, calendar, keeps .groups (by decide), keeps .lums (by decide), released, keeps.relight, config, time,
          loadedBad_eventsKept (advanceLoader u), line⟩⟩

end Sys2Proof.Machine

namespace Sys2Proof.Machine

/-! ## The shares of the placeholders (R58) -/

/-- R58: an entry is a placeholder of station `x`. -/
def Entry.placeholderOf (x : Nat) (e : Entry) : Bool := decide (e.station = x ∧ e.full = none)

theorem sharePlaceholders_length (x share extra : Nat) (l : List Entry) :
    (sharePlaceholders x share extra l).length = l.length := by
  simpa using congrArg List.length (sharePlaceholders_unweighted x share extra l)

/-- R58: every placeholder of `x` takes its share, and the odd part goes to the one with none before it. -/
theorem sharePlaceholders_getElem? (x share extra : Nat) (l : List Entry) (i : Nat) (e : Entry) (h : l[i]? = some e) :
    (sharePlaceholders x share extra l)[i]? =
      some
        (if e.placeholderOf x = true then
          { e with weight := min 128 (share + (if (l.take i).any (Entry.placeholderOf x) = true then 0 else extra)) }
         else e) := by
  induction l generalizing extra i with
  | nil => cases h
  | cons d ds ih =>
    by_cases hd : d.station = x ∧ d.full = none
    · have placeholder : d.placeholderOf x = true := decide_eq_true hd
      rw [sharePlaceholders, if_pos hd]
      cases i with
      | zero =>
        cases h
        rw [if_pos placeholder]
        rfl
      | succ i =>
        rw [List.getElem?_cons_succ, ih 0 i h, List.take_succ_cons, List.any_cons, placeholder]
        simp
    · have other : d.placeholderOf x = false := decide_eq_false hd
      rw [sharePlaceholders, if_neg hd]
      cases i with
      | zero =>
        cases h
        rw [if_neg (by rw [other]; decide)]
        rfl
      | succ i =>
        rw [List.getElem?_cons_succ, ih extra i h, List.take_succ_cons, List.any_cons, other, Bool.false_or]

/-- R58: what is shared is the weight that the full entries of `x` leave, and its placeholders are counted. -/
theorem reweigh_eq (x weight : Nat) (v : List Entry) :
    let remainder := weight - ((v.filter (fun e => decide (e.station = x ∧ e.full ≠ none))).map Entry.weight).sum
    let count := (v.filter (Entry.placeholderOf x)).length
    reweigh x weight v = sharePlaceholders x (remainder / count) (remainder % count) v := by
  have fulls : (fun e : Entry => decide (e.station = x) && e.full.isSome) = fun e => decide (e.station = x ∧ e.full ≠ none) :=
    funext fun e => by cases e.full <;> simp
  have placeholders : (fun e : Entry => decide (e.station = x) && e.full.isNone) = Entry.placeholderOf x :=
    funext fun e => by cases h : e.full <;> simp [Entry.placeholderOf, h]
  unfold reweigh
  rw [fulls, placeholders]

/-- Settles O23: an entry's place in the list tells whether a placeholder comes before it. -/
theorem placeholderShares : Obligations.PlaceholderShares := by
  intro x weight v isPlaceholder remainder p
  have shared : reweigh x weight v = sharePlaceholders x (remainder / p) (remainder % p) v := reweigh_eq x weight v
  rw [shared]
  exact ⟨sharePlaceholders_length _ _ _ v, sharePlaceholders_getElem? _ _ _ v⟩

end Sys2Proof.Machine

namespace Sys2Proof.Machine

/-! ## The law of the peer view (R50, R126) -/

/-! ### The keys of the view -/

/-- R50: the key of an entry. -/
def Entry.key (e : Entry) : Nat × Nat := (e.station, e.group)

/-- The keys that the view holds, in list order. -/
def State.keys (s : State) : List (Nat × Nat) := s.view.map Entry.key

theorem Entry.hasKey_iff {e : Entry} {x g : Nat} : e.hasKey x g = true ↔ e.key = (x, g) :=
  decide_eq_true_iff.trans (Prod.ext_iff (x := e.key) (y := (x, g))).symm

theorem State.mem_keys_iff_any {s : State} {x g : Nat} :
    (x, g) ∈ s.keys ↔ s.view.any (fun e => e.hasKey x g) = true := by
  simp only [State.keys, List.mem_map, List.any_eq_true, Entry.hasKey_iff]

/-- The law speaks of the keys alone. -/
theorem State.viewLaw_iff (s : State) :
    s.ViewLaw ↔ s.keys.length ≤ 48 ∧ s.keys.Nodup ∧ (∀ k ∈ s.keys, s.sup.address ≠ some k.1) ∧
      (s.sup.mode = .loading → s.keys = []) := by
  have distinct : s.keys.Nodup ↔ s.view.Pairwise (fun e f => ¬ (e.station = f.station ∧ e.group = f.group)) :=
    List.pairwise_map.trans (iff_of_eq (congrArg (List.Pairwise · s.view) (by funext e f; simp [Entry.key])))
  rw [distinct]
  simp only [State.keys, List.length_map, List.forall_mem_map, List.map_eq_nil_iff]
  exact ⟨fun ⟨size, keys, foreign, loading⟩ => ⟨size, keys, foreign, loading⟩,
    fun ⟨size, keys, foreign, loading⟩ => ⟨size, keys, foreign, loading⟩⟩

theorem State.ViewLaw.of_empty {s : State} (h : s.view = []) : s.ViewLaw := by
  rw [State.viewLaw_iff, State.keys, h]
  exact ⟨Nat.zero_le _, List.nodup_nil, nofun, fun _ => rfl⟩

/-- R51, R59: an entry of another station comes in at the end, where its key is not held and there is room. -/
theorem State.ViewLaw.append {s : State} (h : s.ViewLaw) {e : Entry}
    (fresh : ¬ s.view.any (fun x => x.hasKey e.station e.group) = true) (room : s.view.length < 48)
    (other : s.sup.address ≠ some e.station) (mode : s.sup.mode ≠ .loading) : (s.setView (s.view ++ [e])).ViewLaw := by
  obtain ⟨-, distinct, foreign, -⟩ := s.viewLaw_iff.mp h
  have keys : (s.setView (s.view ++ [e])).keys = s.keys ++ [e.key] := List.map_append
  have new : e.key ∉ s.keys := fun held => fresh (State.mem_keys_iff_any.mp held)
  rw [State.viewLaw_iff, keys]
  refine ⟨?_, List.nodup_append.mpr ⟨distinct, List.nodup_singleton _, ?_⟩, fun k hk => ?_, fun c => absurd c mode⟩
  · simpa [State.keys] using room
  · intro k hk l hl same
    rw [List.mem_singleton.mp hl] at same
    exact new (same ▸ hk)
  · rcases List.mem_append.mp hk with hk | hk
    · exact foreign k hk
    · rw [List.mem_singleton.mp hk]
      exact other

/-! ### Steps that bring no entry in -/

/-- From `s` to `t` no key has come into the view, the address in use has stayed and LOADING has not been entered. -/
structure PeersWithin (s t : State) : Prop where
  keys : t.keys.Sublist s.keys
  address : t.sup.address = s.sup.address
  loading : t.sup.mode = .loading → s.sup.mode = .loading

theorem State.ViewLaw.within {s t : State} (h : s.ViewLaw) (k : PeersWithin s t) : t.ViewLaw := by
  obtain ⟨size, distinct, foreign, loading⟩ := s.viewLaw_iff.mp h
  refine t.viewLaw_iff.mpr ⟨k.keys.length_le.trans size, distinct.sublist k.keys, fun x hx => ?_, fun hm => ?_⟩
  · rw [k.address]
    exact foreign x (k.keys.subset hx)
  · exact List.sublist_nil.mp (loading (k.loading hm) ▸ k.keys)

theorem PeersWithin.refl (s : State) : PeersWithin s s := ⟨List.Sublist.refl _, rfl, id⟩

theorem PeersWithin.trans {s t u : State} (h : PeersWithin s t) (k : PeersWithin t u) : PeersWithin s u :=
  ⟨k.keys.trans h.keys, k.address.trans h.address, fun hm => h.loading (k.loading hm)⟩

theorem PeersWithin.same {s t : State} (hv : t.view = s.view) (hs : t.sup = s.sup) : PeersWithin s t :=
  ⟨by rw [State.keys, State.keys, hv], by rw [hs], fun hm => by rw [← hs]; exact hm⟩

theorem PeersWithin.of_keeps {a : List Part} {s t : State} (k : Keeps a s t) (hv : Part.view ∉ a := by decide)
    (hs : Part.sup ∉ a := by decide) : PeersWithin s t := .same (k .view hv) (k .sup hs)

/-- A step that is taken on a condition, and else leaves the state. -/
theorem PeersWithin.guard {c : Prop} [Decidable c] {s t : State} (k : PeersWithin s t) : PeersWithin s (if c then t else s) := by
  split
  · exact k
  · exact .refl s

theorem PeersWithin.ite {c : Prop} [Decidable c] {s t u : State} (ht : PeersWithin s t) (hu : PeersWithin s u) :
    PeersWithin s (if c then t else u) := by
  split
  · exact ht
  · exact hu

theorem PeersWithin.foldl {α : Type} {f : State → α → State} (hf : ∀ s x, PeersWithin s (f s x)) (l : List α) (s : State) :
    PeersWithin s (l.foldl f s) := by
  induction l generalizing s with
  | nil => exact .refl s
  | cons x xs ih => exact (hf s x).trans (ih _)

theorem setView_within {s : State} {v : List Entry} (h : (v.map Entry.key).Sublist s.keys) : PeersWithin s (s.setView v) :=
  ⟨h, rfl, id⟩

/-- A table of entries that is changed entry by entry, each keeping its key. -/
theorem PeersWithin.map {s t : State} (f : Entry → Entry) (hf : ∀ e, (f e).key = e.key) (hv : t.view = s.view.map f)
    (address : t.sup.address = s.sup.address) (loading : t.sup.mode = .loading → s.sup.mode = .loading) : PeersWithin s t := by
  refine ⟨?_, address, loading⟩
  rw [State.keys, hv, List.map_map, List.map_congr_left (f := Entry.key ∘ f) (g := Entry.key) fun e _ => hf e]
  exact List.Sublist.refl _

/-- The supervisor changes, but for the address in use, and does not enter LOADING. -/
theorem setSup_within {s : State} {u : Supervisor} (address : u.address = s.sup.address)
    (loading : u.mode = .loading → s.sup.mode = .loading) : PeersWithin s (s.setSup u) :=
  ⟨List.Sublist.refl _, address, loading⟩

/-- A change of mode other than the entry into LOADING, and what follows it. -/
theorem PeersWithin.of_setSup {s t : State} {u : Supervisor} (k : PeersWithin (s.setSup u) t)
    (address : u.address = s.sup.address := by rfl) (loading : u.mode = .loading → s.sup.mode = .loading := by nofun) :
    PeersWithin s t := (setSup_within address loading).trans k

/-! ### The supervisor and the delivery of frames -/

theorem enterListening_within (s : State) : PeersWithin s (enterListening s) :=
  .of_setSup (.of_keeps (withdrawAll_keeps _ _))

theorem enterStandalone_within (s : State) : PeersWithin s (enterStandalone s) := .of_setSup (.of_keeps (raise_keeps _ _ _))

theorem enterCoordinating_within (s : State) : PeersWithin s (enterCoordinating s) := .of_setSup (.refl _)

theorem enterIsolatedSilence_within (s : State) : PeersWithin s (enterIsolatedSilence s) := by
  have isolated : PeersWithin s (withdrawAll (some .withdrawn) (raise .isolated noDetail (s.setSup
      ({ s.sup with mode := .isolated, reason := .silence, listen := none, clear := none,
                    fallback := some 0 }).countIsolation))) :=
    .of_setSup ((PeersWithin.of_keeps (raise_keeps _ _ _)).trans (.of_keeps (withdrawAll_keeps _ _)))
  unfold enterIsolatedSilence
  exact .ite (isolated.trans (enterStandalone_within _)) isolated

theorem enterIsolatedDriver_within (s : State) : PeersWithin s (enterIsolatedDriver s) :=
  .guard (.of_setSup (.of_keeps (raise_keeps _ _ _)))

theorem cutDriver_within (s : State) : PeersWithin s (cutDriver s) := by
  refine PeersWithin.trans ?_ (enterIsolatedDriver_within _)
  refine PeersWithin.trans ?_ (.of_keeps (endAllTests_keeps _ _ _))
  refine PeersWithin.trans ?_ (.of_keeps (withdrawAll_keeps _ _))
  refine PeersWithin.trans ?_ (.of_keeps (raise_keeps _ _ _))
  exact (PeersWithin.of_keeps (emptyQueue_keeps s)).trans (.of_keeps (setLine_keeps _ _))

theorem stationFrame_within (s : State) : PeersWithin s (stationFrame s) := by
  have heard : PeersWithin s (s.setSup { s.sup with silence := some (s.figures.silence * 60) }) := setSup_within rfl id
  exact .guard (.ite (heard.trans (enterListening_within _)) heard)

/-- R131, R138: what the supervisor leaves of a frame for the blocks behind it. -/
theorem received_within (src : Byte) (s : State) :
    PeersWithin s (if stationAddress src.toNat then stationFrame (receiverIdle s) else receiverIdle s) := by
  have idle := PeersWithin.of_keeps (receiverIdle_keeps s)
  exact .ite (idle.trans (stationFrame_within _)) idle

theorem deliver_within (src dst : Byte) {f : State → State} (hf : ∀ t, PeersWithin t (f t)) (s : State) :
    PeersWithin s (deliver src dst f s) :=
  .guard (.ite ((received_within src s).trans (hf _)) (.of_keeps (receiverIdle_keeps s)))

theorem deliverProtocol_within (src dst : Byte) {f : State → State} (hf : ∀ t, PeersWithin t (f t)) (s : State) :
    PeersWithin s (deliverProtocol src dst f s) :=
  .ite ((PeersWithin.of_keeps (receiverIdle_keeps s)).trans (.of_keeps (countClash_keeps _)))
    (deliver_within src dst (fun t => .guard (hf t)) s)

/-- R143, R144, R50: a CLAIM or BEACON reaches the view from another station only, and outside LOADING. -/
theorem deliverProtocol_viewLaw (src dst : Byte) {f : State → State}
    (hf : ∀ t, t.ViewLaw → t.sup.address ≠ some src.toNat → t.sup.mode ≠ .loading → (f t).ViewLaw) {s : State} (h : s.ViewLaw) :
    (deliverProtocol src dst f s).ViewLaw := by
  have idle := PeersWithin.of_keeps (receiverIdle_keeps s)
  have received := received_within src s
  unfold deliverProtocol deliver
  split
  · exact h.within (idle.trans (.of_keeps (countClash_keeps _)))
  · next noClash =>
    split
    · next receives =>
      split
      · next passes =>
        generalize (if stationAddress src.toNat then stationFrame (receiverIdle s) else receiverIdle s) = u at received ⊢
        beta_reduce
        split
        · next reaches =>
          obtain ⟨station, configured⟩ := (Bool.and_eq_true _ _).mp reaches
          refine hf u (h.within received) (fun own => noClash ⟨receives, ((Bool.and_eq_true _ _).mp passes).1, ?_⟩)
            (Mode.ne_loading_of_configured configured)
          rw [received.address] at own
          unfold State.clashes
          rw [station, decide_eq_true own]
          rfl
        · exact h.within received
      · exact h.within idle
    · exact h

/-! ### Entries that leave, and entries that come in (R51 to R59) -/

theorem removeEntry_within (x g : Nat) (s : State) : PeersWithin s (removeEntry x g s) := by
  have sup : (removeEntry x g s).sup = s.sup := removeEntry_keeps x g s .sup (by decide)
  refine ⟨?_, by rw [sup], fun hm => by rw [← sup]; exact hm⟩
  rw [State.keys, removeEntry_view]
  exact List.filter_sublist.map Entry.key

theorem removeEnded_within (s : State) : PeersWithin s (removeEnded s) :=
  PeersWithin.foldl (fun t (e : Entry) => removeEntry_within e.station e.group t) _ s

theorem judge_within (j : Judged) (s : State) : PeersWithin s (judge j s) := .of_keeps (judge_keeps j s)

theorem loadSteps_within (s : State) : PeersWithin s (loadSteps s) := .of_keeps (loadSteps_keeps s)

/-- R51 to R53: a CLAIM takes the place of the entry of its key, comes in at the end, or finds the view full. -/
theorem withClaim_viewLaw (x : Nat) (c : ClaimFrame) {s : State} (h : s.ViewLaw) (other : s.sup.address ≠ some x)
    (mode : s.sup.mode ≠ .loading) : (withClaim x c s).ViewLaw := by
  by_cases held : s.view.any (fun e => e.hasKey x c.group) = true
  · rw [withClaim_held held]
    refine h.within (.map _ (fun e => ?_) rfl rfl id)
    split
    · next same => exact (Entry.hasKey_iff.mp same).symm
    · rfl
  · have absent := Bool.eq_false_of_not_eq_true held
    by_cases room : s.view.length < 48
    · rw [withClaim_appended absent room]
      exact h.append (e := s.entryOf x c) held room other mode
    · rw [withClaim_full absent (Nat.le_of_not_lt room)]
      exact h.within (.of_keeps (viewFull_keeps _ s))

theorem takeClaim_viewLaw (x : Nat) (c : ClaimFrame) {s : State} (h : s.ViewLaw) (other : s.sup.address ≠ some x)
    (mode : s.sup.mode ≠ .loading) : (takeClaim x c s).ViewLaw := by
  rw [takeClaim_eq]
  exact (withClaim_viewLaw x c h other mode).within (judge_within _ _)

/-- R57, step 2: an entry confirmed keeps its key. -/
theorem confirmPairs_keys (x : Nat) (pairs : List (Nat × Phase)) (v : List Entry) :
    (pairs.foldl (confirmPair x) v).map Entry.key = v.map Entry.key := by
  induction pairs generalizing v with
  | nil => rfl
  | cons p ps ih =>
    rw [List.foldl_cons, ih, confirmPair, List.map_map]
    refine List.map_congr_left fun e _ => ?_
    rw [Function.comp_apply]
    split <;> rfl

/-- R59: a placeholder comes in only where its key is not held and there is room. -/
theorem addPlaceholder_viewLaw (x : Nat) (p : Nat × Phase) {s : State} (h : s.ViewLaw) (other : s.sup.address ≠ some x)
    (mode : s.sup.mode ≠ .loading) : (addPlaceholder x s p).ViewLaw := by
  unfold addPlaceholder
  split
  · exact h
  · next fresh =>
    split
    · next room => exact h.append (e := s.placeholder x p) fresh room other mode
    · exact h.within (.of_keeps (viewFull_keeps _ s))

theorem addPlaceholders_viewLaw (x : Nat) (pairs : List (Nat × Phase)) {s : State} (h : s.ViewLaw)
    (other : s.sup.address ≠ some x) (mode : s.sup.mode ≠ .loading) : (pairs.foldl (addPlaceholder x) s).ViewLaw := by
  induction pairs generalizing s with
  | nil => exact h
  | cons p ps ih =>
    have sup : (addPlaceholder x s p).sup = s.sup := addPlaceholder_keeps x p s .sup (by decide)
    exact ih (addPlaceholder_viewLaw x p h other mode) (by rw [sup]; exact other) (by rw [sup]; exact mode)

/-- R58: the shares change weights alone. -/
theorem reweigh_keys (x weight : Nat) (v : List Entry) : (reweigh x weight v).map Entry.key = v.map Entry.key := by
  have unweighted : ∀ l : List Entry, l.map Entry.key = (l.map Entry.unweighted).map Entry.key := fun l => by
    rw [List.map_map]
    rfl
  rw [unweighted, reweigh_unweighted, ← unweighted]

/-- R57 to R60: after its removals a BEACON confirms entries and adds placeholders, and the rest keeps the keys. -/
theorem takeBeacon_viewLaw (x : Nat) (b : BeaconFrame) {s : State} (h : s.ViewLaw) (other : s.sup.address ≠ some x)
    (mode : s.sup.mode ≠ .loading) : (takeBeacon x b s).ViewLaw := by
  have kept := h.within (setView_within (v := (firstPairs b.claims).foldl (confirmPair x)
    (s.view.filter (fun e => !unlisted x (firstPairs b.claims) e))) (by
      rw [confirmPairs_keys]
      exact List.filter_sublist.map Entry.key))
  have placed := addPlaceholders_viewLaw x (firstPairs b.claims) kept other mode
  unfold takeBeacon
  simp only
  generalize (firstPairs b.claims).foldl (addPlaceholder x) (s.setView _) = t at placed ⊢
  have shared := placed.within (setView_within (v := reweigh x b.weight t.view) (by
    rw [reweigh_keys]
    exact List.Sublist.refl _))
  have removed := shared.within (.foldl (fun w (_ : Entry) => loadSteps_within w)
    (s.view.filter (unlisted x (firstPairs b.claims))) _)
  have reported := removed.within (.foldl (fun w j => judge_within j w)
    (reconcileReports x (firstPairs b.claims) s.view (reweigh x b.weight t.view)) _)
  split
  · exact reported
  · exact reported.within (loadSteps_within _)

end Sys2Proof.Machine

namespace Sys2Proof.Machine

/-! ## Every command keeps the law of the peer view (R50, R126) -/

/-! ### The load -/

theorem routeCheck_within (s : State) : PeersWithin s (routeCheck s) :=
  .foldl (fun t _ => .guard (.of_keeps (raise_keeps _ _ t))) _ s

theorem goodConfig_within (bytes : List Byte) (s : State) : PeersWithin s (goodConfig bytes s) := by
  refine PeersWithin.trans ?_ (routeCheck_within _)
  exact .same rfl rfl

theorem configRead_within (bytes : List Byte) (s : State) : PeersWithin s (configRead bytes s) :=
  (PeersWithin.guard (goodConfig_within bytes s)).trans (.of_keeps (advanceLoader_keeps _))

theorem groupRead_within (g : Nat) (bytes : List Byte) (s : State) : PeersWithin s (groupRead g bytes s) :=
  (PeersWithin.guard (.of_keeps (restoreGroup_frame g _ s).keeps)).trans (.of_keeps (advanceLoader_keeps _))

/-- The end of LOADING leaves the view as it is, and the law has it empty then. -/
theorem endLoading_view (s : State) : (endLoading s).view = s.view := by
  cases hf : s.loader.figures with
  | none =>
    rw [endLoading_bad hf]
    exact loadedBad_keeps s .view (by decide)
  | some f =>
    rw [endLoading_good hf]
    calc (loadedGood f s).view
        = (settled (handOver f s)).view := firstListening_keeps _ .view (by decide)
      _ = (handOver f s).view := (settled_passes _).keeps .view (by decide)
      _ = s.view := handOver_keeps f s .view (by decide)

theorem lumRead_view (n : Nat) (bytes : List Byte) (s : State) : (lumRead n bytes s).view = s.view := by
  have read : (advanceLoader (if s.loader.figures.isSome then restoreLum n (LumRecord.read bytes) s else s)).view = s.view := by
    refine Eq.trans (advanceLoader_keeps _ .view (by decide)) ?_
    split
    · exact restoreLum_keeps n _ s .view (by decide)
    · rfl
  unfold lumRead
  generalize advanceLoader _ = t at read ⊢
  simp only
  split
  · rw [endLoading_view, read]
  · exact read

/-! ### The line and the inputs -/

theorem startHold_keeps (f : TxFrame) (s : State) : Keeps [.groups] s (startHold f s) := by
  unfold startHold
  split
  · split
    · exact modGroup_keeps _ _ s
    · exact Keeps.refl _ s
  · exact Keeps.refl _ s

theorem dropFrame_within (c : Current) (s : State) : PeersWithin s (dropFrame c s) := by
  have dropped := (PeersWithin.of_keeps (dropCurrent_keeps s)).trans
    (.of_keeps (raise_keeps .txDropped (kindDetail c.frame.kind) _))
  unfold dropFrame dropReported
  split
  · exact .ite (dropped.trans (.of_keeps (withdraw_keeps _ _ _))) dropped
  · exact dropped

theorem discardFrame_keeps (chars : List Byte) (s : State) : Keeps [.line] s (discardFrame chars s) := by
  have idle := receiverIdle_keeps s
  unfold discardFrame
  simp only
  split
  · split
    · exact idle.trans (countClash_keeps _)
    · split
      · exact Keeps.refl _ s
      · exact idle
  · exact idle.trans (countCrcError_keeps _)

theorem Entry.minute_key (e : Entry) : e.minute.key = e.key := by
  unfold Entry.minute
  split <;> rfl

/-! ### The service responder -/

theorem serve_within (src dst : Byte) {f : State → State} (hf : ∀ t, PeersWithin t (f t)) (s : State) :
    PeersWithin s (serve src dst f s) :=
  deliver_within src dst (fun t => .guard (hf t)) s

theorem sendReply_within (src : Byte) (echo : List Byte) (b : Bool) {s : State} {a : Answer} (h : PeersWithin s a.state) :
    PeersWithin s (sendReply src echo b a) := h.trans (.of_keeps (offer_keeps _ _))

theorem noteRefusal_keeps (src : Byte) (status : Status) (s : State) : Keeps [.events] s (noteRefusal src status s) := by
  unfold noteRefusal
  split
  · exact raise_keeps _ _ s
  · exact raise_keeps _ _ s
  · exact Keeps.refl _ s

theorem judgeCommand_within (src : Byte) (b k : Bool) {carry : State → Option Answer} {s : State}
    (hc : ∀ a, carry s = some a → PeersWithin s a.state) : PeersWithin s (judgeCommand src b k carry s).state := by
  unfold judgeCommand
  split
  · exact .of_keeps (noteRefusal_keeps src _ s)
  · cases e : carry s with
    | none => exact .refl s
    | some a => exact hc a e

theorem answerQuery_within (src code : Byte) (b : Bool) (args : List Byte) {item : Nat → Nat → State → Answer}
    (hi : ∀ i j t, PeersWithin t (item i j t).state) (s : State) : PeersWithin s (answerQuery src code b args item s) := by
  refine sendReply_within src _ _ ((PeersWithin.of_keeps (tookFree_keeps (queryFree (code :: args)) s)).trans ?_)
  unfold judgeQuery
  split
  · split
    · exact .refl _
    · exact hi _ _ _
  · exact .refl _

theorem answerUnknown_within (src : Byte) (k : ServiceKind) (payload : List Byte) (s : State) :
    PeersWithin s (answerUnknown src k payload s) := by
  unfold answerUnknown
  split
  · exact sendReply_within src _ _ (.of_keeps (tookFree_keeps _ s))
  · refine sendReply_within src _ _
      ((PeersWithin.of_keeps (tookFree_keeps (commandFree payload) s)).trans (judgeCommand_within src _ _ fun _ e => ?_))
    cases e

theorem pendRestart_keeps (s : State) : Keeps [.service] s (pendRestart s) := setService_keeps _ s

theorem answerRestart_within (src : Byte) (args : List Byte) (s : State) : PeersWithin s (answerRestart src args s) := by
  refine sendReply_within src _ _ (judgeCommand_within src true true fun a e => ?_)
  cases e
  exact .of_keeps (pendRestart_keeps s)

theorem viewItem_state (data : Nat → Nat → State → Option (List Byte)) (i j : Nat) (s : State) :
    (viewItem data i j s).state = s := by
  unfold viewItem dataAnswer
  split <;> rfl

theorem peerEntryAnswer_state (i j : Nat) (s : State) : (peerEntryAnswer i j s).state = s := by
  unfold peerEntryAnswer
  split
  · split <;> rfl
  · rfl

theorem historyAnswer_keeps (n k : Nat) (s : State) : Keeps [.mem] s (historyAnswer n k s).state := by
  unfold historyAnswer
  split
  · split
    · exact Keeps.refl _ s
    · split
      · exact Keeps.refl _ s
      · split
        · exact Keeps.refl _ s
        · split
          · exact setMem_keeps _ s
          · exact Keeps.refl _ s
  · exact Keeps.refl _ s

theorem onGroup_within {args : List Byte} {f : Nat → State → Answer} (hf : ∀ g t, PeersWithin t (f g t).state) {s : State}
    {a : Answer} (e : onGroup args f s = some a) : PeersWithin s a.state := by
  obtain ⟨g, -, rfl⟩ := Option.map_eq_some_iff.mp e
  split
  · exact hf g s
  · exact .refl s

theorem cancelGroup_within (g : Nat) (s : State) : PeersWithin s (cancelGroup g s).state := by
  unfold cancelGroup
  split
  · exact .of_keeps (withdraw_keeps g _ s)
  · exact .of_keeps (endTest_keeps g _ _ s)
  · exact .refl s

theorem setTimeTo_within {args : List Byte} {s : State} {a : Answer} (e : setTimeTo args s = some a) : PeersWithin s a.state := by
  unfold setTimeTo at e
  split at e
  · split at e
    · cases e
    · cases e
      exact .same rfl rfl
  · cases e

theorem judgeProbe_within (src : Byte) (n : Nat) (s : State) : PeersWithin s (judgeProbe src n s).state := by
  unfold judgeProbe
  split
  · exact .refl s
  · split
    · exact .refl s
    · exact .same rfl rfl

/-! ### Every command -/

section
variable {s t : State}

theorem done_within {u : State} (e : done s u = .next t) (k : PeersWithin s u) : PeersWithin s t := by
  cases e
  exact k.trans (.same rfl rfl)

theorem live_within {f : State → State} (e : live s f = .next t) (k : PeersWithin s (f s)) : PeersWithin s t :=
  done_within e (.guard k)

theorem query_within {src dst code : Byte} {b : Bool} {args : List Byte} {ms : Nat} {item : Nat → Nat → State → Answer}
    (e : query src dst code b args ms item s = .next t) (hi : ∀ i j t, PeersWithin t (item i j t).state) : PeersWithin s t :=
  live_within e ((PeersWithin.of_keeps (atMs_keeps ms s)).trans
    (serve_within src dst (answerQuery_within src code b args hi) _))

theorem command_within {src dst code : Byte} {k : Bool} {args : List Byte} {ms : Nat} {carry : State → Option Answer}
    (e : command src dst code k args ms carry s = .next t) (hc : ∀ t a, carry t = some a → PeersWithin t a.state) :
    PeersWithin s t :=
  live_within e ((PeersWithin.of_keeps (atMs_keeps ms s)).trans
    (serve_within src dst (fun u => sendReply_within src _ false (judgeCommand_within src false k (hc u))) _))

end

/-- The commands that can bring an entry into the view, end LOADING or reset the part. -/
def remakesView : Instr → Bool
  | .powerOnReset | .resetN | .restartTaken | .powerLoss => true
  | .luminaireRecordRead _ _ | .claimReceived _ _ _ _ | .beaconReceived _ _ _ _ => true
  | _ => false

/-- Every other command brings no entry in, keeps the address in use and does not enter LOADING. -/
theorem exec_within (i : Instr) (hi : remakesView i = false) {s t : State} (e : exec i s = .next t) : PeersWithin s t := by
  have at_ : ∀ ms, PeersWithin s (s.atMs ms) := fun ms => .of_keeps (atMs_keeps ms s)
  have drawn : ∀ (idle : Bool) (u : State), PeersWithin u (drawnWhileIdle idle u) := fun idle u =>
    .of_keeps (drawnWhileIdle_keeps idle u)
  cases i with
  | powerOnReset | resetN | restartTaken | powerLoss | luminaireRecordRead | claimReceived | beaconReceived => cases hi
  -- Commands whose change is written out in their meaning: neither the view nor the supervisor is in it.
  | oscillatorStop | calendarAdvance => exact done_within e (.same rfl rfl)
  | msenseChange | inhibitChange | skeyChange =>
    exact done_within e (.ite (.refl s) (.ite (.same rfl rfl) (.same rfl rfl)))
  | backoffExpiry =>
    unfold exec execBackoffExpiry at e
    exact live_within e (.refl s)
  | outageHoldExpiry =>
    unfold exec execOutageHoldExpiry at e
    exact live_within e (.refl s)
  | overflowHoldExpiry | lineHeld | lineHeldCleared | inhibitValidated | inhibitStuck | skeyValidated =>
    exact live_within e (.guard (.same rfl rfl))
  | rxFrameBroken => exact live_within e (.guard (.ite (.same rfl rfl) (.same rfl rfl)))
  | rxFrameDiscarded chars => exact live_within e (.guard (.of_keeps (discardFrame_keeps chars s)))
  -- The load.
  | configBlockRead answer =>
    exact live_within e (.guard ((PeersWithin.of_keeps (setNvm_keeps _ s)).trans (configRead_within _ _)))
  | groupRecordRead answer ms =>
    unfold exec execGroupRecordRead at e
    refine live_within e ?_
    split
    · exact .guard (((at_ ms).trans (.of_keeps (setNvm_keeps _ _))).trans (groupRead_within _ _ _))
    · exact .refl s
  -- The clocks and the supervisor.
  | tickSecond =>
    unfold exec execTickSecond at e
    refine live_within e (PeersWithin.trans (t := tickAll s) ?_ (.of_keeps (checkLatchAtTick_keeps _)))
    exact .map Entry.older (fun _ => rfl) rfl rfl id
  | minuteTick => exact live_within e (.guard (.map Entry.minute Entry.minute_key rfl rfl id))
  | listenExpiry => exact live_within e (.guard (enterCoordinating_within s))
  | clearTimerExpiry => exact live_within e (.guard (setSup_within rfl id))
  | silenceExpiry idle => exact live_within e (.guard ((drawn idle s).trans (enterIsolatedSilence_within _)))
  | fallbackExpiry => exact live_within e (.guard (enterStandalone_within s))
  | driverCut bits ms => exact live_within e (.guard ((at_ ms).trans (cutDriver_within _)))
  | driverReenable =>
    have freed := PeersWithin.of_keeps (setLine_keeps { s.line with cut := none } s)
    exact live_within e (.guard (.ite (freed.trans (enterListening_within _)) freed))
  -- The own groups: their claims and their tests.
  | schedulingPass =>
    refine live_within e (.guard (PeersWithin.trans ?_ (.of_keeps (schedulePass_keeps _))))
    exact .same rfl rfl
  | holdExpiry g ms =>
    exact live_within e (.guard (.ite ((at_ ms).trans (.of_keeps (enterTesting_keeps g _)))
      ((at_ ms).trans (.of_keeps (withdraw_keeps g _ _)))))
  | pollRound g ms =>
    exact live_within e (.guard (((at_ ms).trans (.of_keeps (modGroup_keeps g _ _))).trans (.of_keeps (pollMembers_keeps g _))))
  | endInstant n ms =>
    unfold exec execEndInstant at e
    refine live_within e ?_
    simp only
    split
    · exact .guard ((at_ ms).trans (.of_keeps (passMember_keeps _ n _)))
    · exact .refl s
  | refreshExpiry g ms =>
    exact live_within e (.guard (((at_ ms).trans (.of_keeps (queueClaim_keeps g _))).trans (.of_keeps (startRefresh_keeps g _))))
  | rechargeComplete g idle => exact live_within e (.guard ((drawn idle s).trans (.of_keeps (releaseGroup_keeps g _))))
  | beaconCountdownExpiry =>
    exact live_within e (.guard ((PeersWithin.of_keeps (setBeacon_keeps _ s)).trans (.of_keeps (offerBeacon_keeps _))))
  | validatedOff ms idle =>
    exact live_within e (.guard (((at_ ms).trans (drawn idle _)).trans (.of_keeps (mainsOff_keeps _))))
  | validatedOn ms => exact live_within e (.guard ((at_ ms).trans (.of_keeps (mainsOn_keeps _))))
  -- Frames and the entries that leave.
  | releaseReceived src dst payload ms =>
    unfold exec execReleaseReceived at e
    refine live_within e ((at_ ms).trans (deliverProtocol_within src dst (fun u => ?_) _))
    split
    · exact removeEntry_within _ _ u
    · exact .refl u
  | otherFrameReceived src dst kind ms =>
    unfold exec execOtherFrameReceived at e
    exact live_within e (.ite (.refl s) ((at_ ms).trans (deliver_within src dst .refl _)))
  | entryAgeOut =>
    unfold exec execEntryAgeOut at e
    refine live_within e ?_
    split
    · exact removeEntry_within _ _ s
    · exact .refl s
  | peerRechargeEnd => exact live_within e (removeEnded_within s)
  -- The line.
  | txAttemptStart =>
    exact live_within e (.guard ((PeersWithin.of_keeps (drawIfNone_keeps s)).trans (.of_keeps (startAttempt_keeps _))))
  | txDefer => exact live_within e (.guard ((PeersWithin.of_keeps (drawIfNone_keeps s)).trans (.of_keeps (endSlotWait_keeps _))))
  | txComplete =>
    unfold exec execTxComplete at e
    refine live_within e ?_
    split
    · exact .guard ((PeersWithin.of_keeps (dropCurrent_keeps s)).trans (.of_keeps (startHold_keeps _ _)))
    · exact .refl s
  | txCollision =>
    unfold exec execTxCollision at e
    refine live_within e ?_
    split
    · exact .guard (.ite (.of_keeps (setLine_keeps _ s)) (dropFrame_within _ s))
    · exact .refl s
  | reportOffer =>
    unfold exec execReportOffer at e
    refine live_within e ?_
    split
    · refine .guard (PeersWithin.trans ?_ (.of_keeps (offer_keeps _ _)))
      exact .same rfl rfl
    · exact .refl s
  -- The loop.
  | branchGrant b => exact live_within e (.guard (.of_keeps (grantBranch_keeps b s)))
  | loopRetry b chars =>
    unfold exec execLoopRetry at e
    refine live_within e ?_
    split
    · exact .guard (.of_keeps (setBranch_keeps b _ s))
    · exact .refl s
  | loopTransactionComplete b chars ms =>
    unfold exec execLoopTransactionComplete at e
    refine live_within e ?_
    split
    · exact .guard ((at_ ms).trans (.of_keeps (completeLoop_keeps b _ _ _)))
    · exact .refl s
  | sweepStart => exact live_within e (.guard (.of_keeps (startSweep_keeps s)))
  -- The service responder.
  | stationStatus | group | luminaire | eventStatus | counters =>
    exact query_within e fun i j u => by rw [viewItem_state]; exact .refl u
  | peerEntry => exact query_within e fun i j u => by rw [peerEntryAnswer_state]; exact .refl u
  | history => exact query_within e fun n k u => .of_keeps (historyAnswer_keeps n k u)
  | setTime => exact command_within e fun _ _ => setTimeTo_within
  | hold =>
    exact command_within e fun _ _ => onGroup_within fun g u =>
      (PeersWithin.of_keeps (modGroup_keeps g _ u)).trans (.of_keeps (withdraw_keeps g _ _))
  | resume | force => exact command_within e fun _ _ => onGroup_within fun g u => .of_keeps (modGroup_keeps g _ u)
  | cancel => exact command_within e fun _ _ => onGroup_within cancelGroup_within
  | clearEvents =>
    refine command_within e fun u a ha => ?_
    obtain ⟨n, -, rfl⟩ := Option.map_eq_some_iff.mp ha
    exact .of_keeps (clearEvents_keeps n u)
  | clearIsolation =>
    refine command_within e fun u a ha => ?_
    cases ha
    exact setSup_within rfl id
  | probe src =>
    refine command_within e fun u a ha => ?_
    obtain ⟨n, -, rfl⟩ := Option.map_eq_some_iff.mp ha
    exact judgeProbe_within src n u
  | restart src dst args ms =>
    unfold exec execRestart at e
    exact live_within e ((at_ ms).trans (serve_within src dst (answerRestart_within src args) _))
  | unknownServiceCode src dst kind payload ms =>
    unfold exec execUnknownServiceCode at e
    exact live_within e (.ite (.refl s) ((at_ ms).trans (serve_within src dst (answerUnknown_within src kind payload) _)))
  -- The record memory.
  | memoryGrant => exact live_within e (.guard (.of_keeps (grantMemory_keeps s)))
  | flushComplete =>
    unfold exec execFlushComplete at e
    refine live_within e ?_
    split
    · exact .of_keeps (recordWritten_keeps _ _ s)
    · exact .of_keeps (recordWritten_keeps _ _ s)
    · exact .refl s
  | historyLineWritten =>
    unfold exec execHistoryLineWritten at e
    refine live_within e ?_
    split
    · exact .of_keeps (lineWritten_keeps _ _ _ s)
    · exact .refl s
  | fillComplete answer =>
    unfold exec execFillComplete at e
    refine live_within e ?_
    split
    · exact .of_keeps (filled_keeps _ _ _ _ s)
    · exact .refl s

/-! ### The commands that can bring an entry in, end LOADING or reset the part -/

/-- R126: a reset, and the loss of the supply, leave the view empty. -/
theorem initialise_viewLaw (isolations : Nat) (s : State) : (initialise isolations s).ViewLaw := .of_empty rfl

section
variable {s t : State}

theorem done_viewLaw {u : State} (e : done s u = .next t) (k : u.ViewLaw) : t.ViewLaw := by
  cases e
  exact k.within (.same rfl rfl)

theorem State.ViewLaw.ite {c : Prop} [Decidable c] (ht : t.ViewLaw) (hs : s.ViewLaw) : State.ViewLaw (if c then t else s) := by
  split
  · exact ht
  · exact hs

theorem live_viewLaw {f : State → State} (h : s.ViewLaw) (e : live s f = .next t) (k : (f s).ViewLaw) : t.ViewLaw :=
  done_viewLaw e (k.ite h)

end

theorem exec_viewLaw (i : Instr) {s t : State} (h : s.ViewLaw) (e : exec i s = .next t) : t.ViewLaw := by
  have at_ : ∀ ms, (s.atMs ms).ViewLaw := fun ms => h.within (.of_keeps (atMs_keeps ms s))
  cases i with
  | powerOnReset => exact done_viewLaw e (initialise_viewLaw 0 s)
  | resetN => exact live_viewLaw h e (initialise_viewLaw 0 s)
  | restartTaken => exact live_viewLaw h e ((initialise_viewLaw _ s).ite h)
  | powerLoss => exact live_viewLaw h e (.of_empty rfl)
  | luminaireRecordRead answer ms =>
    unfold exec execLuminaireRecordRead at e
    refine live_viewLaw h e ?_
    split
    · split
      · next loading => exact .of_empty ((lumRead_view _ _ _).trans (h.loading loading))
      · exact h
    · exact h
  | claimReceived src dst payload ms =>
    unfold exec execClaimReceived at e
    refine live_viewLaw h e (deliverProtocol_viewLaw src dst (fun u law other mode => ?_) (at_ ms))
    split
    · exact takeClaim_viewLaw _ _ law other mode
    · exact law
  | beaconReceived src dst payload ms =>
    unfold exec execBeaconReceived at e
    refine live_viewLaw h e (deliverProtocol_viewLaw src dst (fun u law other mode => ?_) (at_ ms))
    split
    · exact (takeBeacon_viewLaw _ _ law other mode).within (.guard (.same rfl rfl))
    · exact law
  | _ => exact h.within (exec_within _ rfl e)

/-- Settles O6: a step runs the command at the front of the queue, and every command keeps the law of the view. -/
theorem viewLawIsKept : Obligations.ViewLawIsKept := fun s t h e => by
  unfold step at e
  split at e
  · next rest _ =>
    have h' : State.ViewLaw { s with pending := rest } := h.within (.same rfl rfl)
    exact exec_viewLaw _ h' e
  · cases e
    exact h

end Sys2Proof.Machine
